-- ==== Sys2Proof/Word.lean ====
section
/-! DEFINITION. The widths of OWR-CORE, each a bit vector the spec gives bits to (00_scope.md R5,
10_state.md R10, 30_encoding.md R45, R49, R52, R54). Arithmetic the spec does over the integers stands with
the operations that do it, under Machine/. -/

namespace Sys2Proof

/-- A raw ADC sample, `ADC_BITS` = 10 bits (R5, R48). -/
abbrev Sample := BitVec 10

/-- A two-bit quadrature symbol: bit 1 is contact A, bit 0 is contact B, 1 means closed (R52). -/
abbrev QuadSymbol := BitVec 2

/-- The register `ST`: the index of the decoder state (R10, R11). -/
abbrev StIndex := BitVec 4

/-- One entry of a transition table: tag in bits 5:4, next index in bits 3:0 (R54). -/
abbrev Entry := BitVec 6

/-- The register `POS`, 16 bits in two's complement (R10, R12). -/
abbrev Pos := BitVec 16

/-- A command word (R46). -/
abbrev Cmd := BitVec 12

/-- A response word (R49). -/
abbrev Rsp := BitVec 17

/-- `ADC_MAX`, the largest sample value (R5). -/
abbrev adcMax : Nat := 1023

end Sys2Proof
end

