-- ==== Sys2Proof/Config.lean ====
section
/-! DEFINITION. The Device Configuration CFG: what an instance fixes at construction (10_state.md R16,
00_scope.md R5). Its values are data, so a claim over all states is a claim over all configurations (log 1).
The spec leaves no value of a running block open, so no uninterpreted constant stands here. -/

namespace Sys2Proof

/-- `CFG.MODE`: which transition table is used (R81); codes 0 = FULL, 1 = HALF (R16). -/
inductive Mode where
  | full
  | half
deriving DecidableEq, Repr

/-- `CFG.CONTRACT`: which consumer contract the instance offers (R105); codes 0 = RAW, 1 = DRAIN (R16). -/
inductive Contract where
  | raw
  | drain
deriving DecidableEq, Repr

/-- `CFG.POS_OVERFLOW`: the counter at its limits (R110); codes 0 = WRAP, 1 = CLAMP (R16). -/
inductive Overflow where
  | wrap
  | clamp
deriving DecidableEq, Repr

/-- The Device Configuration (R16). Every 10-bit value is legal (R16, R75). -/
structure Cfg where
  /-- `CFG.E_A`: the expected sample when only contact A is closed. -/
  eA : Sample
  /-- `CFG.E_B`: the expected sample when only contact B is closed. -/
  eB : Sample
  /-- `CFG.VAR`: the tolerance around every expected value. -/
  var : Sample
  /-- `CFG.E_AB`: the expected sample when both contacts are closed; read as given (R72). -/
  eAB : Sample
  mode : Mode
  contract : Contract
  posOverflow : Overflow
deriving DecidableEq, Repr

/-- The one-bit code of a mode (R16). -/
def Mode.code : Mode → BitVec 1
  | .full => 0#1
  | .half => 1#1

/-- The one-bit code of a contract (R16). -/
def Contract.code : Contract → BitVec 1
  | .raw => 0#1
  | .drain => 1#1

/-- The one-bit code of an overflow policy (R16). -/
def Overflow.code : Overflow → BitVec 1
  | .wrap => 0#1
  | .clamp => 1#1

end Sys2Proof
end

