-- ==== Sys2Proof/Syntax.lean ====
section
/-! DEFINITION. The four operations of OWR-CORE, one constructor per row of spec/opcode_table.json
(30_encoding.md R47, 42_operations.md R105). -/

namespace Sys2Proof

/-- An operation. Only POLL has an operand (R48); the ignored bits of the other three are no part of the
operation (93 U15). -/
inductive Instr where
  /-- POLL: take one sample (R106). -/
  | poll (sample : Sample)
  /-- READ_POSITION: return the counter (R107). -/
  | readPosition
  /-- HANDLE_EVENT: deliver at most one event (R108). -/
  | handleEvent
  /-- RESET_POSITION: zero the counter (R109). -/
  | resetPosition
deriving DecidableEq, Repr

end Sys2Proof
end

