-- ==== Sys2Proof/WellFormed.lean ====
section
/-! DEFINITION. The checks on what stands outside the types: a number as a command word, a number as a POLL
operand, and the pair of expected readings a configuration is constructed from. An `Instr` itself needs no
check: every 10-bit operand is a legal sample (30_encoding.md R48), so `Instr.wf` holds of every operation. -/

namespace Sys2Proof

/-- A number is a POLL operand: `0 .. ADC_MAX` (R48, R60). -/
def sampleInRange (n : Nat) : Bool := n ≤ adcMax

/-- A number is a command word: it fits the 12 bits of the one command length (R46). -/
def wordInRange (w : Nat) : Bool := w < 2 ^ 12

/-- A pair of expected readings from which `E_AB` can be derived: not both zero (R71). -/
def readingsDerivable (a b : Sample) : Bool := !(a == 0#10 && b == 0#10)

/-- An operation is well formed: its operand is in range (R48). -/
def Instr.wf : Instr → Bool
  | .poll s => sampleInRange s.toNat
  | .readPosition => true
  | .handleEvent => true
  | .resetPosition => true

end Sys2Proof
end

