-- ==== Sys2Proof/Decode.lean ====
section
/-! DEFINITION. Command words (30_encoding.md R46, R47, R48, R57, R59): the decoder, total on the 12-bit
port; its numeric form, which rejects by name a number that is no command word; the encoder, written from
the same table. Every operation code is used, so no command word is rejected (R47, R57 (a)). -/

namespace Sys2Proof

/-- Why a number is not decoded: it has a bit above the 12 of the one command length (R46, R59; log 13). -/
inductive DecodeError where
  | wordTooWide
deriving DecidableEq, Repr

/-- `op` = 00 (R47). -/
def opPoll : BitVec 2 := 0b00#2
/-- `op` = 01 (R47). -/
def opReadPosition : BitVec 2 := 0b01#2
/-- `op` = 10 (R47). -/
def opHandleEvent : BitVec 2 := 0b10#2
/-- `op` = 11 (R47). -/
def opResetPosition : BitVec 2 := 0b11#2

/-- `cmd[11:10]` (R46). -/
def opField (w : Cmd) : BitVec 2 := w.extractLsb' 10 2

/-- `cmd[9:0]` (R46, R48). -/
def sampleField (w : Cmd) : Sample := w.extractLsb' 0 10

/-- The operation a command word selects (R47); bits 9:0 are read by POLL only (R57 (b)). -/
def decode (w : Cmd) : Instr :=
  if opField w = opPoll then .poll (sampleField w)
  else if opField w = opReadPosition then .readPosition
  else if opField w = opHandleEvent then .handleEvent
  else .resetPosition

/-- Decoding a number: the command word it is, or why it is none. -/
def decodeNat (w : Nat) : Except DecodeError Instr :=
  if wordInRange w then .ok (decode (BitVec.ofNat 12 w)) else .error .wordTooWide

/-- The operation of the table's row whose bits are `w`; bits at and above `nbits` are 0. -/
def decodeTableWord (nbits w : Nat) : Option Instr :=
  match decodeNat (w % 2 ^ nbits) with
  | .ok i => some i
  | .error _ => none

/-- The operation code of an operation (R47). -/
def opOf : Instr → BitVec 2
  | .poll _ => opPoll
  | .readPosition => opReadPosition
  | .handleEvent => opHandleEvent
  | .resetPosition => opResetPosition

/-- The low ten bits of an operation's command word: the sample, or the canonical 0 where they are ignored
(R46, R57 (b)). -/
def operandOf : Instr → BitVec 10
  | .poll s => s
  | .readPosition => 0#10
  | .handleEvent => 0#10
  | .resetPosition => 0#10

/-- The command word of an operation (R46, R60). -/
def encode (i : Instr) : Cmd := opOf i ++ operandOf i

end Sys2Proof
end

