-- ==== Sys2Proof/Machine/Signals.lean ====
section
/-! DEFINITION. The values inside one operation and their codes: sample classes (30_encoding.md R52, R53),
direction tags and events (R51), responses and their word (R49, R50), and the names of the decoder states
(R55, R56). -/

namespace Sys2Proof.Machine

/-- The five classes of the classifier (R52, R65); they have no numeric code (R53). -/
inductive SampleClass where
  | pressed
  | both
  | aOnly
  | bOnly
  | opened
deriving DecidableEq, Repr

/-- The direction pulse of one POLL (R51, R89). -/
inductive Dir where
  | none
  | cw
  | ccw
deriving DecidableEq, Repr

/-- What HANDLE_EVENT delivers (R51). -/
inductive Event where
  | none
  | cw
  | ccw
  | press
deriving DecidableEq, Repr

/-- What an operation responds (R49, R50). -/
inductive Response where
  | polled (pressedLevel : Bool) (dir : Dir)
  | position (p : Pos)
  | event (e : Event)
  | done
  | refused
deriving DecidableEq, Repr

/-- The seven states of the full-step machine (R55). -/
inductive FullState where
  | start
  | cwFinal
  | cwBegin
  | cwNext
  | ccwBegin
  | ccwFinal
  | ccwNext
deriving DecidableEq, Repr

/-- The six states of the half-step machine (R56). -/
inductive HalfState where
  | start
  | ccwBegin
  | cwBegin
  | startM
  | cwBeginM
  | ccwBeginM
deriving DecidableEq, Repr

/-- State numbers in MODE = FULL (R55). -/
def FullState.index : FullState → StIndex
  | .start => 0#4
  | .cwFinal => 1#4
  | .cwBegin => 2#4
  | .cwNext => 3#4
  | .ccwBegin => 4#4
  | .ccwFinal => 5#4
  | .ccwNext => 6#4

/-- State numbers in MODE = HALF (R56). -/
def HalfState.index : HalfState → StIndex
  | .start => 0#4
  | .ccwBegin => 1#4
  | .cwBegin => 2#4
  | .startM => 3#4
  | .cwBeginM => 4#4
  | .ccwBeginM => 5#4

/-- Direction codes (R51), the tag field of a table entry (R54). -/
def Dir.code : Dir → BitVec 2
  | .none => 0b00#2
  | .cw => 0b01#2
  | .ccw => 0b10#2

/-- Event codes (R51). -/
def Event.code : Event → BitVec 2
  | .none => 0b00#2
  | .cw => 0b01#2
  | .ccw => 0b10#2
  | .press => 0b11#2

/-- `rsp[15:0]` of a response (R50). -/
def Response.payload : Response → BitVec 16
  | .polled p d => 0#13 ++ BitVec.ofBool p ++ d.code
  | .position p => p
  | .event e => 0#14 ++ e.code
  | .done => 0#16
  | .refused => 0#16

/-- `rsp[16]` of a response (R49). -/
def Response.isRefused : Response → Bool
  | .refused => true
  | _ => false

/-- The response word: `refused ‖ payload` (R49). -/
def Response.word (r : Response) : Rsp := BitVec.ofBool r.isRefused ++ r.payload

end Sys2Proof.Machine
end

