-- ==== Sys2Proof/Machine/Construct.lean ====
section
/-! DEFINITION. Construction of a configuration: the derived "both contacts closed" reading
(40_classifier.md R71, R72), the configuration made from the host's choices (70_reset_and_hazards.md R144 (1)),
and the one the reset state holds (log 2). -/

namespace Sys2Proof.Machine

/-- `derive_both_exact` in its closed form, over the rationals; no value where the denominator is 0 (R71). -/
def deriveBothExact (a b m : ℚ) : Option ℚ :=
  if m * (a + b) - a * b = 0 then none else some (m * a * b / (m * (a + b) - a * b))

/-- `derive_both`: the exact value's floor, computed on naturals (R72). Readings up to `m` make the
subtraction exact. -/
def deriveBoth (a b m : Nat) : Option Nat :=
  if m * (a + b) - a * b = 0 then none else some (m * a * b / (m * (a + b) - a * b))

/-- The configuration of an instance, `E_AB` derived (R16, R72, R144 (1)); none at `E_A = E_B = 0`, which
cannot be constructed (R71). -/
def makeCfg (eA eB var : Sample) (mode : Mode) (contract : Contract) (overflow : Overflow) : Option Cfg :=
  match deriveBoth eA.toNat eB.toNat adcMax with
  | none => none
  | some e => some ⟨eA, eB, var, BitVec.ofNat 10 e, mode, contract, overflow⟩

/-- The configuration the reset state holds. MODE, CONTRACT and POS_OVERFLOW are R16's; the four readings are
host-supplied and the spec gives them no value: DESIGN CHOICE, the values 95_test_vectors.md calls K2, which
meet `InRange` and `BandsDisjoint` and have `E_AB` as derived (log 2, unsafe). -/
def resetCfg : Cfg :=
  { eA := 400#10, eB := 800#10, var := 15#10, eAB := 360#10,
    mode := .full, contract := .drain, posOverflow := .wrap }

end Sys2Proof.Machine
end

