-- ==== Sys2Proof/Machine/State.lean ====
section
/-! DEFINITION. The state of one OWR-CORE instance as plain data: the four registers of 10_state.md R10, the
port registers of 30_encoding.md R58, the immutable configuration of R16 (log 1), and the pin values the host
will drive (log 3). There is no memory to hold (20_memory.md R30; log 10). -/

namespace Sys2Proof.Machine

/-- Why the machine stops. The block itself raises nothing (60_exceptions.md R125); both are raised only in
states no run from construction reaches. -/
inductive Fault where
  /-- Raised by POLL when `ST` holds an index its table has no row for: such a read has no defined result
  (R33, R57 (c), 93 U8). Safe: the machine stops where the spec gives no effect (log 6). -/
  | noTableWord
  /-- Raised by POLL when a table entry carries the tag `11`, which no entry does (R57 (d), 93 U9). Safe
  (log 7). -/
  | tagBoth
deriving DecidableEq, Repr

/-- Why an operation has no meaning here. -/
inductive Refusal where
  /-- The operation has not been modelled; no arm of `exec` answers it. Safe. -/
  | notModelled (mnemonic : String)
deriving DecidableEq, Repr

/-- The input pins at one rising clock edge (R45). -/
structure PinInput where
  rst : Bool
  cmdValid : Bool
  cmd : Cmd
deriving DecidableEq, Repr

/-- The machine's state. -/
structure State where
  /-- The configuration: fixed at construction, written by no operation (R16; log 1). -/
  cfg : Cfg
  /-- `ST` (R10, R11). -/
  st : StIndex
  /-- `POS` (R10, R12). -/
  pos : Pos
  /-- `BTN_PENDING` (R10, R13). -/
  btnPending : Bool
  /-- `BTN_LATCHED` (R10, R13). -/
  btnLatched : Bool
  /-- The port `rsp_valid` (R45, R58). -/
  rspValid : Bool
  /-- The port `rsp`, the last response (R49, R58). -/
  rsp : Rsp
  /-- The pins of the coming edges, oldest first; none listed: `cmd_valid = 0` (log 3). -/
  inputs : List PinInput
deriving DecidableEq, Repr

/-- The instance right after construction with a configuration (R23, R58, R140); `rsp` is log 4's choice. -/
def State.construct (c : Cfg) : State :=
  { cfg := c, st := 0#4, pos := 0#16, btnPending := false, btnLatched := false,
    rspValid := false, rsp := 0#17, inputs := [] }

/-- The machine right after reset (R23, R140), with the configuration of log 2. -/
def State.reset : State := State.construct resetCfg

end Sys2Proof.Machine
end

