-- ==== Sys2Proof/Machine/Ops.lean ====
section
/-! DEFINITION. The named operations over the registers: register writes, the response (30_encoding.md R49,
R58), refusal (42_operations.md R114), the position accumulator (R110), and the clock edge's own work (R58,
70_reset_and_hazards.md R140). The spec has no trap entry and no trap return (60_exceptions.md R128, R129), so
no operation takes an exception. -/

namespace Sys2Proof.Machine

/-- `ST <- v`. -/
def State.setSt (s : State) (v : StIndex) : State := { s with st := v }

/-- `POS <- v`. -/
def State.setPos (s : State) (v : Pos) : State := { s with pos := v }

/-- `BTN_PENDING <- p`, `BTN_LATCHED <- l`. -/
def State.setButtons (s : State) (p l : Bool) : State := { s with btnPending := p, btnLatched := l }

/-- `respond(r)`: the response word is on the port and valid in the following cycle (R49, R58). -/
def State.respond (s : State) (r : Response) : State := { s with rsp := r.word, rspValid := true }

/-- `refuse`: the response is REFUSED and no register is written (R114). -/
def refuse (s : State) : State := s.respond .refused

/-- `wrap16(z)` (00_scope.md section 7). -/
def wrap16 (z : Int) : Pos := BitVec.ofInt 16 z

/-- `clamp16(z)` (00_scope.md section 7). -/
def clamp16 (z : Int) : Pos := BitVec.ofInt 16 (min 32767 (max (-32768) z))

/-- The counter's value for an exact result, by the overflow policy (R110). -/
def narrowPos (o : Overflow) (z : Int) : Pos :=
  match o with
  | .wrap => wrap16 z
  | .clamp => clamp16 z

/-- `pos_inc(p)` (R110). -/
def posInc (o : Overflow) (p : Pos) : Pos := narrowPos o (p.toInt + 1)

/-- `pos_dec(p)` (R110). -/
def posDec (o : Overflow) (p : Pos) : Pos := narrowPos o (p.toInt - 1)

/-- The three-way action on a direction tag (R89, R106). -/
def countDir (o : Overflow) (d : Dir) (p : Pos) : Pos :=
  match d with
  | .none => p
  | .cw => posInc o p
  | .ccw => posDec o p

/-- One step of `POS` toward zero by HANDLE_EVENT; it never overflows, and the policy plays no part (R108 (b)). -/
def towardZero (p : Pos) : Pos :=
  if p.toInt > 0 then wrap16 (p.toInt - 1) else if p.toInt < 0 then wrap16 (p.toInt + 1) else p

/-- The pins when the host drives nothing: no reset, no command (R57 (e), R115; log 3). -/
def idlePins : PinInput := { rst := false, cmdValid := false, cmd := 0#12 }

/-- The pins at the next rising edge. -/
def nextPins (s : State) : PinInput := s.inputs.headD idlePins

/-- The state once the edge has taken its pins. -/
def popPins (s : State) : State := { s with inputs := s.inputs.tail }

/-- The pins that present a command word. -/
def commandPins (w : Cmd) : PinInput := { rst := false, cmdValid := true, cmd := w }

/-- The host drives `p` at the next edge, before what it had planned. -/
def drivePins (s : State) (p : PinInput) : State := { s with inputs := p :: s.inputs }

/-- The edge with `rst = 1`: the four registers take their reset values, `rsp_valid <- 0`, the configuration
stays (R23, R58, R140); `rsp`, which R58 does not write here, holds (DEDUCED, log 5, unsafe). -/
def rstEdge (s : State) : State :=
  { s with st := 0#4, pos := 0#16, btnPending := false, btnLatched := false, rspValid := false }

/-- The edge with neither `rst` nor a command: everything holds, `rsp_valid <- 0` (R58, R115). -/
def idleEdge (s : State) : State := { s with rspValid := false }

end Sys2Proof.Machine
end

