-- ==== Sys2Proof/Machine/Operands.lean ====
section
/-! DEFINITION. What POLL's one operand becomes: the ADC voltage threshold classifier (40_classifier.md R65 to
R70) and the quadrature symbol of a class (30_encoding.md R52). -/

namespace Sys2Proof.Machine

/-- `within(s, X, V)`: the window closed at both ends, over the unbounded integers (R67, R68). -/
def within (s x v : Sample) : Bool :=
  decide ((x.toNat : Int) - v.toNat ≤ s.toNat ∧ (s.toNat : Int) ≤ (x.toNat : Int) + v.toNat)

/-- `classify(s, CFG)`: first match wins, in this order (R66). -/
def classify (c : Cfg) (s : Sample) : SampleClass :=
  if s.toNat ≤ c.var.toNat then .pressed
  else if within s c.eAB c.var then .both
  else if within s c.eA c.var then .aOnly
  else if within s c.eB c.var then .bOnly
  else .opened

/-- `symbol_of(c)`; PRESSED has no symbol (R52, R70, R91). -/
def symbolOf : SampleClass → Option QuadSymbol
  | .opened => some 0b00#2
  | .bOnly => some 0b01#2
  | .aOnly => some 0b10#2
  | .both => some 0b11#2
  | .pressed => none

end Sys2Proof.Machine
end

