-- ==== Sys2Proof/Machine/Flags.lean ====
section
/-! DEFINITION. The block's only flags, the two of the button debouncer (10_state.md R13, R19), as a POLL
updates them (42_operations.md R111). -/

namespace Sys2Proof.Machine

/-- `btn_poll(c, PENDING, LATCHED)`: the two flags after a poll whose class is `c` (R111). -/
def btnPoll (c : SampleClass) (pending latched : Bool) : Bool × Bool :=
  if c = .pressed then
    if latched then (pending, true) else (true, true)
  else (pending, false)

end Sys2Proof.Machine
end

