-- ==== Sys2Proof/Machine/Quadrature.lean ====
section
/-! DEFINITION. The Gray-code quadrature state machine and the detent edge detector: the two constant tables
(41_quadrature.md R84, R87), the flat ROM they form (20_memory.md R31), and one lookup (R80, R89). -/

namespace Sys2Proof.Machine

/-- `TT_FULL`, rows in index order, columns in symbol order 00, 01, 10, 11 (R84). -/
def ttFull : List Entry :=
  [ 0x00#6, 0x04#6, 0x02#6, 0x00#6,   -- START
    0x10#6, 0x01#6, 0x00#6, 0x03#6,   -- CW_FINAL
    0x00#6, 0x00#6, 0x02#6, 0x03#6,   -- CW_BEGIN
    0x00#6, 0x01#6, 0x02#6, 0x03#6,   -- CW_NEXT
    0x00#6, 0x04#6, 0x00#6, 0x06#6,   -- CCW_BEGIN
    0x20#6, 0x00#6, 0x05#6, 0x06#6,   -- CCW_FINAL
    0x00#6, 0x04#6, 0x05#6, 0x06#6 ]  -- CCW_NEXT

/-- `TT_HALF`, rows in index order, columns in symbol order 00, 01, 10, 11 (R87). -/
def ttHalf : List Entry :=
  [ 0x00#6, 0x01#6, 0x02#6, 0x03#6,   -- START
    0x00#6, 0x01#6, 0x00#6, 0x23#6,   -- CCW_BEGIN
    0x00#6, 0x00#6, 0x02#6, 0x13#6,   -- CW_BEGIN
    0x00#6, 0x04#6, 0x05#6, 0x03#6,   -- START_M
    0x10#6, 0x04#6, 0x03#6, 0x03#6,   -- CW_BEGIN_M
    0x20#6, 0x03#6, 0x05#6, 0x03#6 ]  -- CCW_BEGIN_M

/-- The table of a mode (R81). -/
def tableOf : Mode → List Entry
  | .full => ttFull
  | .half => ttHalf

/-- `TT[s][y]`: the word at the flat address `4*s + y`, if the ROM has one (R31, R33). -/
def tableRead (m : Mode) (s : StIndex) (y : QuadSymbol) : Option Entry :=
  (tableOf m)[4 * s.toNat + y.toNat]?

/-- `e[3:0]`, the next index (R54). -/
def entryIndex (e : Entry) : StIndex := e.extractLsb' 0 4

/-- `e[5:4]`, the direction tag (R54). -/
def entryTag (e : Entry) : BitVec 2 := e.extractLsb' 4 2

/-- The direction a tag carries; `11` is none of the three (R54, R57 (d)). -/
def dirOfTag (t : BitVec 2) : Option Dir :=
  if t = 0b00#2 then some .none
  else if t = 0b01#2 then some .cw
  else if t = 0b10#2 then some .ccw
  else none

/-- `fsm_step(ST, y)`: the next index and the direction pulse of one lookup (R80, R89). -/
def fsmStep (m : Mode) (s : StIndex) (y : QuadSymbol) : Except Fault (StIndex × Dir) :=
  match tableRead m s y with
  | none => .error .noTableWord
  | some e =>
    match dirOfTag (entryTag e) with
    | none => .error .tagBoth
    | some d => .ok (entryIndex e, d)

end Sys2Proof.Machine
end

