-- ==== Sys2Proof/Machine/Poll.lean ====
section
/-! DEFINITION. The meaning of POLL (42_operations.md R106). -/

namespace Sys2Proof.Machine

/-- The four registers and the response of a POLL that made no lookup: a PRESSED sample changes the button
flags only (R91, R106). -/
def pollPressed (s : State) : State :=
  let b := btnPoll .pressed s.btnPending s.btnLatched
  (s.setButtons b.1 b.2).respond (.polled true .none)

/-- The four registers and the response of a POLL whose class `c` gave the lookup result `r` (R106). -/
def pollMoved (c : SampleClass) (r : StIndex × Dir) (s : State) : State :=
  let b := btnPoll c s.btnPending s.btnLatched
  (((s.setButtons b.1 b.2).setSt r.1).setPos (countDir s.cfg.posOverflow r.2 s.pos)).respond (.polled false r.2)

/-- POLL: classify the sample, advance the state machine, act on the tag, update the flags (R106). -/
def execPoll (x : Sample) (s : State) : Host.Outcome State Fault Refusal :=
  match symbolOf (classify s.cfg x) with
  | none => .next (pollPressed s)
  | some y =>
    match fsmStep s.cfg.mode s.st y with
    | .error f => .fault f
    | .ok r => .next (pollMoved (classify s.cfg x) r s)

end Sys2Proof.Machine
end

