-- ==== Sys2Proof/Machine/Position.lean ====
section
/-! DEFINITION. RESET_POSITION (42_operations.md R109), which is not the block's reset
(70_reset_and_hazards.md R142). -/

namespace Sys2Proof.Machine

/-- RESET_POSITION: `POS <- 0`, offered under both contracts (R105, R109). -/
def execResetPosition (s : State) : Host.Outcome State Fault Refusal :=
  .next ((s.setPos 0#16).respond .done)

end Sys2Proof.Machine
end

