-- ==== Sys2Proof/Machine/Query.lean ====
section
/-! DEFINITION. The two query operations, one for each consumer contract: READ_POSITION (42_operations.md
R107) and HANDLE_EVENT (R108). The one a contract does not offer answers REFUSED and goes on (R114; log 8). -/

namespace Sys2Proof.Machine

/-- READ_POSITION: respond the counter, change nothing (R107). -/
def execReadPosition (s : State) : Host.Outcome State Fault Refusal :=
  match s.cfg.contract with
  | .raw => .next (s.respond (.position s.pos))
  | .drain => .next (refuse s)

/-- HANDLE_EVENT under its contract: PRESS first, then one rotation event, then NONE (R108). -/
def deliverEvent (s : State) : State :=
  if s.btnPending then (s.setButtons false s.btnLatched).respond (.event .press)
  else if s.pos.toInt > 0 then (s.setPos (towardZero s.pos)).respond (.event .cw)
  else if s.pos.toInt < 0 then (s.setPos (towardZero s.pos)).respond (.event .ccw)
  else s.respond (.event .none)

/-- HANDLE_EVENT: deliver at most one pending event and consume it (R108). -/
def execHandleEvent (s : State) : Host.Outcome State Fault Refusal :=
  match s.cfg.contract with
  | .drain => .next (deliverEvent s)
  | .raw => .next (refuse s)

end Sys2Proof.Machine
end

