-- ==== Sys2Proof/Machine/Dispatch.lean ====
section
/-! DEFINITION. exec: one arm per operation (42_operations.md R105, R116). -/

namespace Sys2Proof.Machine

def exec (i : Instr) (s : State) : Host.Outcome State Fault Refusal :=
  match i with
  | .poll x => Sys2Proof.Machine.execPoll x s
  | .readPosition => Sys2Proof.Machine.execReadPosition s
  | .handleEvent => Sys2Proof.Machine.execHandleEvent s
  | .resetPosition => Sys2Proof.Machine.execResetPosition s

end Sys2Proof.Machine
end

