-- ==== Sys2Proof/Machine/Step.lean ====
section
/-! DEFINITION. One rising clock edge (30_encoding.md R58): `rst` first, else a valid command, else nothing.
There is no program counter (10_state.md R18): the next operation is the one the host drives on the pins at
the next edge (log 3). -/

namespace Sys2Proof.Machine

/-- One clock edge (R58): `rst` has priority over a command (60_exceptions.md R127). -/
def step (s : State) : Host.Outcome State Fault Refusal :=
  if (nextPins s).rst then .next (rstEdge (popPins s))
  else if (nextPins s).cmdValid then exec (decode (nextPins s).cmd) (popPins s)
  else .next (idleEdge (popPins s))

/-- `s` with the table's word `w` driven as a command at the next edge; the port has 12 wires (log 3, log 13). -/
def State.withFetchWord (s : State) (nbits w : Nat) : State :=
  drivePins s (commandPins (BitVec.ofNat 12 (w % 2 ^ nbits)))

end Sys2Proof.Machine
end

