-- ==== Sys2Proof/Machine/Pseudo.lean ====
section
/-! DEFINITION. The textual form of operations (30_encoding.md R60) and the pseudo-operations with their
expansions (R61). No machine rule reads them. -/

namespace Sys2Proof.Machine

/-- The pseudo-operations of R61; `sym` carries the two-bit symbol. -/
inductive Pseudo where
  | sym (y : QuadSymbol)
  | press
  | detentCw
  | detentCcw
deriving DecidableEq, Repr

/-- The sample `SYM y` polls: the nominal reading of the symbol's class (R61). -/
def nominalSample (c : Cfg) (y : QuadSymbol) : Sample :=
  if y = 0b00#2 then BitVec.ofNat 10 adcMax
  else if y = 0b01#2 then c.eB
  else if y = 0b10#2 then c.eA
  else c.eAB

/-- The POLLs of a sequence of symbols, each at its nominal sample. -/
def symPolls (c : Cfg) (ys : List QuadSymbol) : List Instr := ys.map fun y => .poll (nominalSample c y)

/-- The expansion of a pseudo-operation (R61). -/
def expand (c : Cfg) : Pseudo → List Instr
  | .sym y => symPolls c [y]
  | .press => [.poll 0#10]
  | .detentCw => symPolls c [0b10#2, 0b11#2, 0b01#2, 0b00#2]
  | .detentCcw => symPolls c [0b01#2, 0b11#2, 0b10#2, 0b00#2]

/-- An operation as one line of text (R60). -/
def lineOf : Instr → String
  | .poll s => "POLL " ++ toString s.toNat
  | .readPosition => "READPOS"
  | .handleEvent => "HANDLE"
  | .resetPosition => "RESETPOS"

end Sys2Proof.Machine
end

