-- ==== Sys2Proof/Safety.lean ====
section
/-! DEFINITION. The terms claims are stated in: legal state indices (10_state.md R11, R24), which operations a
contract offers (42_operations.md R105), the premises on a configuration (40_classifier.md R74), what a POLL
pulse and an event count (R110, R108), and runs of operations with their responses (70_reset_and_hazards.md
R155). -/

namespace Sys2Proof.Machine

/-- The number of states of a mode's table (R82). -/
def stateCount : Mode → Nat
  | .full => 7
  | .half => 6

/-- `ST` is a legal index for `CFG.MODE` (R11, R24). -/
abbrev State.Legal (s : State) : Prop := s.st.toNat < stateCount s.cfg.mode

/-- The operations an instance offers, by its contract (R105). -/
def offered (c : Contract) : Instr → Bool
  | .poll _ => true
  | .readPosition => c = .raw
  | .handleEvent => c = .drain
  | .resetPosition => true

/-- `InRange(CFG)`; the bounds of `E_AB` and `VAR` hold by their width (R74). -/
def InRange (c : Cfg) : Prop :=
  (0 < c.eA.toNat ∧ c.eA.toNat < adcMax) ∧ (0 < c.eB.toNat ∧ c.eB.toNat < adcMax)
    ∧ c.eAB.toNat ≤ adcMax ∧ c.var.toNat ≤ adcMax

/-- The PRESSED band, as integers (R74). -/
def pressedBand (c : Cfg) (z : Int) : Prop := 0 ≤ z ∧ z ≤ c.var.toNat

/-- The band around an expected value, as integers (R74). -/
def windowBand (x v : Sample) (z : Int) : Prop :=
  (x.toNat : Int) - v.toNat ≤ z ∧ z ≤ (x.toNat : Int) + v.toNat

/-- The OPEN band: the nominal open reading (R74). -/
def openBand (z : Int) : Prop := z = adcMax

/-- Two sets of integers have no member in common. -/
def Apart (p q : Int → Prop) : Prop := ∀ z, p z → ¬ q z

/-- `BandsDisjoint(CFG)`: the five bands are pairwise disjoint (R74). -/
def BandsDisjoint (c : Cfg) : Prop :=
  [pressedBand c, windowBand c.eAB c.var, windowBand c.eA c.var, windowBand c.eB c.var, openBand].Pairwise Apart

/-- `NominalsClassify(CFG)` (R74). -/
def NominalsClassify (c : Cfg) : Prop :=
  classify c c.eAB = .both ∧ classify c c.eA = .aOnly ∧ classify c c.eB = .bOnly
    ∧ classify c (BitVec.ofNat 10 adcMax) = .opened ∧ classify c 0#10 = .pressed

/-- The rotation a response of an operation reports into `POS`: a POLL's pulse counts in, an event of
HANDLE_EVENT counts out, and no other response counts (R50, R106, R108). -/
def rotationOf (i : Instr) (r : Rsp) : Int :=
  match i with
  | .poll _ => if r = (Response.polled false .cw).word then 1 else if r = (Response.polled false .ccw).word then -1 else 0
  | .handleEvent => if r = (Response.event .cw).word then -1 else if r = (Response.event .ccw).word then 1 else 0
  | .readPosition => 0
  | .resetPosition => 0

/-- A run: the operations in order, answered by the last state and the responses, oldest first (R155); none if
one of them stops the machine. -/
def runOps : List Instr → State → Option (State × List Rsp)
  | [], s => some (s, [])
  | i :: is, s =>
    match exec i s with
    | .next t => (runOps is t).map fun r => (r.1, t.rsp :: r.2)
    | .fault _ => none
    | .refused _ => none

/-- The POLLs of a list of samples. -/
def polls (xs : List Sample) : List Instr := xs.map .poll

/-- A walk of the state machine over a sequence of symbols: the last index and the pulses, oldest first (R80,
R82). -/
def fsmRun (m : Mode) : StIndex → List QuadSymbol → Except Fault (StIndex × List Dir)
  | s, [] => .ok (s, [])
  | s, y :: ys =>
    match fsmStep m s y with
    | .error f => .error f
    | .ok r =>
      match fsmRun m r.1 ys with
      | .error f => .error f
      | .ok q => .ok (q.1, r.2 :: q.2)

/-- The indices such a walk visits after each symbol (R80). -/
def fsmVisits (m : Mode) : StIndex → List QuadSymbol → Option (List StIndex)
  | _, [] => some []
  | s, y :: ys =>
    match fsmStep m s y with
    | .error _ => none
    | .ok r => (fsmVisits m r.1 ys).map fun vs => r.1 :: vs

/-- Whether an operation is a POLL. -/
def isPoll : Instr → Bool
  | .poll _ => true
  | .readPosition => false
  | .handleEvent => false
  | .resetPosition => false

/-- `n` clock edges of the machine (R58). -/
def runEdges (n : Nat) (s : State) : Host.Outcome State Fault Refusal := core.run n s

/-- No OPEN sample is polled in a FINAL state of FULL mode while a list of samples is polled: no chain of either
direction is completed (R83, R84). -/
def completesNoChain : List Sample → State → Bool
  | [], _ => true
  | x :: xs, s =>
    !(classify s.cfg x = .opened && (s.st = FullState.cwFinal.index || s.st = FullState.ccwFinal.index))
      && (match exec (.poll x) s with
          | .next t => completesNoChain xs t
          | .fault _ => true
          | .refused _ => true)

/-- Inside a chain: the classes that complete it, in order, and its direction (R83 (a), (b) in FULL mode; R86,
R87 in HALF mode, whose chains are one state long). -/
def chainRest (m : Mode) (s : StIndex) : Option (List SampleClass × Dir) :=
  match m with
  | .full =>
    if s = FullState.cwBegin.index then some ([.both, .bOnly, .opened], .cw)
    else if s = FullState.cwNext.index then some ([.bOnly, .opened], .cw)
    else if s = FullState.cwFinal.index then some ([.opened], .cw)
    else if s = FullState.ccwBegin.index then some ([.both, .aOnly, .opened], .ccw)
    else if s = FullState.ccwNext.index then some ([.aOnly, .opened], .ccw)
    else if s = FullState.ccwFinal.index then some ([.opened], .ccw)
    else none
  | .half =>
    if s = HalfState.cwBegin.index then some ([.both], .cw)
    else if s = HalfState.ccwBegin.index then some ([.both], .ccw)
    else if s = HalfState.cwBeginM.index then some ([.opened], .cw)
    else if s = HalfState.ccwBeginM.index then some ([.opened], .ccw)
    else none

/-- The pins of a list of operations, one command an edge. -/
def commandSchedule (is : List Instr) : List PinInput := is.map fun i => commandPins (encode i)

end Sys2Proof.Machine
end

