-- ==== Sys2Proof/Certificates/Slice0/Obligations.lean ====
section
/-! DEFINITION. The statements for the provers. Each docstring names the rule of spec/ it formalises. A
statement quantifies over states, so over every configuration a state can hold (log 1); response words are
written as the numbers of 95_test_vectors.md (30_encoding.md R49 to R51). -/

open Sys2Proof Sys2Proof.Machine

/-! ### Construction, reset and the clock edge -/

/-- R23: the four registers after construction, under any configuration, and in the reset state. -/
def Obligations.ConstructionGivesResetValues : Prop :=
  (∀ c : Cfg, (State.construct c).st = FullState.start.index ∧ (State.construct c).st = HalfState.start.index
    ∧ (State.construct c).st = 0#4 ∧ (State.construct c).pos = 0#16
    ∧ (State.construct c).btnPending = false ∧ (State.construct c).btnLatched = false)
  ∧ State.reset.st = 0#4 ∧ State.reset.pos = 0#16
  ∧ State.reset.btnPending = false ∧ State.reset.btnLatched = false

/-- R16 gives MODE, CONTRACT and POS_OVERFLOW of the reset configuration; its four readings are the model's
DESIGN CHOICE (log 2). They are a configuration that R72's derivation constructs and that meets R74's premises. -/
def Obligations.ResetConfigurationIsDerived : Prop :=
  makeCfg 400#10 800#10 15#10 .full .drain .wrap = some State.reset.cfg
  ∧ InRange State.reset.cfg ∧ BandsDisjoint State.reset.cfg

/-- R140: construction fixes the configuration and gives the reset values; a later `rst` edge, whatever the
command pins show, gives them again with the same configuration. That `rsp_valid` falls is R58's; that the edge
takes one entry of the list of coming pins is the model's (log 3, a DESIGN CHOICE). -/
def Obligations.RstEdgeReconstructs : Prop :=
  (∀ c : Cfg, (State.construct c).cfg = c ∧ (State.construct c).st = 0#4 ∧ (State.construct c).pos = 0#16
    ∧ (State.construct c).btnPending = false ∧ (State.construct c).btnLatched = false)
  ∧ ∀ (s : State) (p : PinInput) (rest : List PinInput), s.inputs = p :: rest → p.rst = true →
    ∃ t, step s = .next t ∧ t.cfg = s.cfg ∧ t.st = 0#4 ∧ t.pos = 0#16
      ∧ t.btnPending = false ∧ t.btnLatched = false ∧ t.rspValid = false ∧ t.inputs = rest

/-- R58, the binding of the call surface to the ports: `rst` first, else the command's operation with its
response valid, else the state and `rsp` hold. The pins of the coming edges are the model's list (log 3). -/
def Obligations.ClockEdgeRunsDecodedCommand : Prop :=
  ∀ (s : State) (p : PinInput) (rest : List PinInput), s.inputs = p :: rest →
    (p.rst = true → ∃ t, step s = .next t ∧ t.st = 0#4 ∧ t.pos = 0#16 ∧ t.btnPending = false
      ∧ t.btnLatched = false ∧ t.rspValid = false ∧ t.cfg = s.cfg ∧ t.inputs = rest)
    ∧ (p.rst = false → p.cmdValid = true →
      step s = exec (decode p.cmd) { s with inputs := rest }
      ∧ ∀ t, step s = .next t → t.rspValid = true ∧ t.inputs = rest)
    ∧ (p.rst = false → p.cmdValid = false → step s = .next { s with rspValid := false, inputs := rest })

/-- DEDUCED from R58, which writes no `rsp` at a `rst` edge (log 5): the model's choice is that `rsp` holds. -/
def Obligations.RstEdgeHoldsResponseWord : Prop :=
  ∀ (s : State) (p : PinInput) (rest : List PinInput), s.inputs = p :: rest → p.rst = true →
    ∃ t, step s = .next t ∧ t.rsp = s.rsp

/-- R115: while the host issues no operation, for any number of edges, nothing changes: every register, the
configuration and the last response word. -/
def Obligations.IdleEdgesChangeNothing : Prop :=
  ∀ (n : Nat) (s : State), (∀ p ∈ s.inputs.take n, p.rst = false ∧ p.cmdValid = false) →
    ∃ t, runEdges n s = .next t ∧ t.cfg = s.cfg ∧ t.st = s.st ∧ t.pos = s.pos
      ∧ t.btnPending = s.btnPending ∧ t.btnLatched = s.btnLatched ∧ t.rsp = s.rsp

/-- The operation a word of the opcode table selects is the one the next edge runs (log 3, log 13). -/
def Obligations.PlacedWordRunsNext : Prop :=
  ∀ (nbits w : Nat) (i : Instr) (s : State), decodeTableWord nbits w = some i →
    step (s.withFetchWord nbits w) = exec i s

/-- R37 over the port binding of R58: the operations of an instance run in the order the host issues them, each
from exactly the state the one before it left: a run of edges over their command words is the run of the
operations. The list of coming pins is the model's (log 3, a DESIGN CHOICE). -/
def Obligations.CommandsRunInIssueOrder : Prop :=
  ∀ (ops : List Instr) (rest : List PinInput) (s t : State) (rs : List Rsp),
    s.inputs = commandSchedule ops ++ rest → runOps ops { s with inputs := rest } = some (t, rs) →
    runEdges ops.length s = .next t

/-! ### Command words -/

/-- R47: the four values of `op` select the four operations, whatever the other bits; none is reserved. -/
def Obligations.OpFieldSelectsOperation : Prop :=
  ∀ w : Cmd,
    (w.extractLsb' 10 2 = 0b00#2 → decode w = .poll (w.extractLsb' 0 10))
    ∧ (w.extractLsb' 10 2 = 0b01#2 → decode w = .readPosition)
    ∧ (w.extractLsb' 10 2 = 0b10#2 → decode w = .handleEvent)
    ∧ (w.extractLsb' 10 2 = 0b11#2 → decode w = .resetPosition)

/-- R48: the sample field is an unsigned integer `0 .. ADC_MAX`, neither extended, scaled nor shifted, and
every value of the range is a legal sample. -/
def Obligations.SampleFieldIsUnsigned : Prop :=
  (∀ (w : Cmd) (x : Sample), decode w = .poll x → x.toNat = w.toNat % 1024 ∧ x.toNat ≤ adcMax)
  ∧ ∀ n : Nat, n ≤ adcMax → ∃ x : Sample, decode (BitVec.ofNat 12 n) = .poll x ∧ x.toNat = n

/-- Decode and encode agree on every operation with every operand, on the port word, on its number and on the
table's word (R46, R47). -/
def Obligations.DecodeEncodeRoundTrip : Prop :=
  ∀ i : Instr, i.wf = true → decode (encode i) = i ∧ decodeNat (encode i).toNat = .ok i
    ∧ decodeTableWord 12 (encode i).toNat = some i ∧ decodeTableWord 16 (encode i).toNat = some i

/-- Encoding what a word decodes to gives the word back, with the ignored bits at their canonical 0
(R47, R57 (b)). -/
def Obligations.EncodeDecodeIsCanonical : Prop :=
  ∀ w : Cmd, encode (decode w) = if w.extractLsb' 10 2 = 0b00#2 then w else w &&& 0xC00#12

/-- Command words of 95_test_vectors.md section 6, written out from R46 and R47. -/
def Obligations.SpecWordsDecode : Prop :=
  decode 0b000000000000#12 = .poll 0#10 ∧ decode 0b001111111111#12 = .poll 1023#10
  ∧ decode 0b000101001010#12 = .poll 330#10
  ∧ decode 0b010000000000#12 = .readPosition ∧ decode 0b011111111111#12 = .readPosition
  ∧ decode 0b100000000000#12 = .handleEvent ∧ decode 0b101001011010#12 = .handleEvent
  ∧ decode 0b110000000000#12 = .resetPosition ∧ decode 0b111111111111#12 = .resetPosition

/-- A number is rejected by name exactly when it does not fit the one command length (R46, R59; log 13). -/
def Obligations.OnlyWideWordsAreRejected : Prop :=
  ∀ w : Nat, decodeNat w = .error .wordTooWide ↔ 4096 ≤ w

/-! ### The classifier -/

/-- R67: the tolerance window is closed at both ends. -/
def Obligations.WindowIsClosed : Prop :=
  ∀ s x v : Sample,
    (within s x v = true ↔ (x.toNat : Int) - v.toNat ≤ s.toNat ∧ (s.toNat : Int) ≤ x.toNat + v.toNat)
    ∧ (within s x v = true ↔ |(s.toNat : Int) - x.toNat| ≤ v.toNat)

/-- R66: the class is the first of the five conditions that holds, in this order. -/
def Obligations.ClassifierPriority : Prop :=
  ∀ (c : Cfg) (s : Sample),
    (classify c s = .pressed ↔ s.toNat ≤ c.var.toNat)
    ∧ (classify c s = .both ↔ c.var.toNat < s.toNat ∧ within s c.eAB c.var = true)
    ∧ (classify c s = .aOnly ↔ c.var.toNat < s.toNat ∧ within s c.eAB c.var = false ∧ within s c.eA c.var = true)
    ∧ (classify c s = .bOnly ↔ c.var.toNat < s.toNat ∧ within s c.eAB c.var = false ∧ within s c.eA c.var = false
        ∧ within s c.eB c.var = true)
    ∧ (classify c s = .opened ↔ c.var.toNat < s.toNat ∧ within s c.eAB c.var = false
        ∧ within s c.eA c.var = false ∧ within s c.eB c.var = false)

/-- R68's derived sentence: bounds saturated at 0 and `ADC_MAX` give the same window for every sample. -/
def Obligations.SaturatedWindowAgrees : Prop :=
  ∀ s x v : Sample, within s x v = true ↔
    max 0 ((x.toNat : Int) - v.toNat) ≤ s.toNat ∧ (s.toNat : Int) ≤ min (adcMax : Int) (x.toNat + v.toNat)

/-- R69: a sample at or below the variance is PRESSED whatever the expected values; so sample 0 always is, and
every sample when the variance is full scale. -/
def Obligations.LowSamplesArePressed : Prop :=
  ∀ (c : Cfg) (s : Sample),
    (s.toNat ≤ c.var.toNat → classify c s = .pressed)
    ∧ classify c 0#10 = .pressed
    ∧ (adcMax ≤ c.var.toNat → classify c s = .pressed)

/-- R74's derived sentence: disjoint bands classify every nominal reading as its own class. -/
def Obligations.DisjointBandsClassifyNominals : Prop :=
  ∀ c : Cfg, BandsDisjoint c → NominalsClassify c

/-- R52, R70: the symbol of each class; PRESSED has none. -/
def Obligations.SymbolOfEachClass : Prop :=
  symbolOf .opened = some 0b00#2 ∧ symbolOf .bOnly = some 0b01#2 ∧ symbolOf .aOnly = some 0b10#2
  ∧ symbolOf .both = some 0b11#2 ∧ symbolOf .pressed = none

/-- R71: the closed form is the parallel combination of the two branch resistances under a unit pull-up, and
it has no value, for readings from 0 to full scale, only where both are 0. -/
def Obligations.DerivationIsParallelResistance : Prop :=
  (∀ a b m : ℚ, 0 < a → a < m → 0 < b → b < m →
    deriveBothExact a b m =
      some (m * ((a / (m - a)) * (b / (m - b)) / (a / (m - a) + b / (m - b)))
        / (1 + (a / (m - a)) * (b / (m - b)) / (a / (m - a) + b / (m - b)))))
  ∧ ∀ a b m : ℚ, 0 < m → 0 ≤ a → a ≤ m → 0 ≤ b → b ≤ m → (deriveBothExact a b m = none ↔ a = 0 ∧ b = 0)

/-- R73, derived by the spec from R71: the both-closed reading lies strictly below both single readings. -/
def Obligations.DerivedReadingIsBelowBoth : Prop :=
  ∀ a b m : ℚ, 0 < a → a < m → 0 < b → b < m →
    ∃ e, deriveBothExact a b m = some e ∧ 0 < e ∧ e < min a b

/-- R72: the default of `CFG.E_AB` is the floor of the exact value, and stays within both readings. -/
def Obligations.DerivedReadingIsFloor : Prop :=
  ∀ (a b : Sample) (e : Nat), deriveBoth a.toNat b.toNat adcMax = some e →
    e ≤ min a.toNat b.toNat ∧
    ∃ q : ℚ, deriveBothExact (a.toNat : ℚ) (b.toNat : ℚ) (adcMax : ℚ) = some q ∧ (e : Int) = ⌊q⌋

/-- R16, R72, R144 (1): construction keeps the host's choices and fills `E_AB` in; it fails only where both
expected readings are 0 (R71). -/
def Obligations.ConstructedConfigurationHoldsChoices : Prop :=
  ∀ (a b v : Sample) (m : Mode) (k : Contract) (o : Overflow),
    (makeCfg a b v m k o = none ↔ a = 0#10 ∧ b = 0#10)
    ∧ ∀ c, makeCfg a b v m k o = some c →
      c.eA = a ∧ c.eB = b ∧ c.var = v ∧ c.mode = m ∧ c.contract = k ∧ c.posOverflow = o
      ∧ deriveBoth a.toNat b.toNat adcMax = some c.eAB.toNat

/-! ### The transition tables and the state machine -/

/-- R84 and R87: the two tables as the spec lists them, in decimal. -/
def Obligations.TablesAreTheSpecsData : Prop :=
  ttFull.map BitVec.toNat =
    [0, 4, 2, 0] ++ [16, 1, 0, 3] ++ [0, 0, 2, 3] ++ [0, 1, 2, 3] ++ [0, 4, 0, 6] ++ [32, 0, 5, 6] ++ [0, 4, 5, 6]
  ∧ ttHalf.map BitVec.toNat =
    [0, 1, 2, 3] ++ [0, 1, 0, 35] ++ [0, 0, 2, 19] ++ [0, 4, 5, 3] ++ [16, 4, 3, 3] ++ [32, 3, 5, 3]
  ∧ ∀ (m : Mode) (s : StIndex) (y : QuadSymbol),
    tableRead m s y = (match m with | .full => ttFull | .half => ttHalf)[4 * s.toNat + y.toNat]?

/-- R82: both tables are total and closed, so no symbol sequence leaves the state set, faults or stalls. -/
def Obligations.NoSymbolSequenceLeavesTheTable : Prop :=
  ∀ (m : Mode) (s : StIndex), s.toNat < stateCount m →
    (∀ y : QuadSymbol, ∃ e, tableRead m s y = some e ∧ (entryIndex e).toNat < stateCount m)
    ∧ ∀ ys : List QuadSymbol, ∃ r, fsmRun m s ys = .ok r ∧ r.1.toNat < stateCount m ∧ r.2.length = ys.length

/-- R57 (d), R85 (a), R88 (a): no entry carries the tag `11`; the tagged entries are exactly these. -/
def Obligations.TaggedEntriesAreExactly : Prop :=
  ∀ (m : Mode) (s : StIndex) (y : QuadSymbol) (e : Entry), tableRead m s y = some e →
    entryTag e ≠ 0b11#2
    ∧ (entryTag e = 0b01#2 ↔ (m = .full ∧ s = FullState.cwFinal.index ∧ y = 0b00#2)
        ∨ (m = .half ∧ s = HalfState.cwBegin.index ∧ y = 0b11#2)
        ∨ (m = .half ∧ s = HalfState.cwBeginM.index ∧ y = 0b00#2))
    ∧ (entryTag e = 0b10#2 ↔ (m = .full ∧ s = FullState.ccwFinal.index ∧ y = 0b00#2)
        ∨ (m = .half ∧ s = HalfState.ccwBegin.index ∧ y = 0b11#2)
        ∨ (m = .half ∧ s = HalfState.ccwBeginM.index ∧ y = 0b00#2))

/-- R83 (a), (b), (e): the nine pinned entries of the full-step table and the six self-loops. -/
def Obligations.FullStepPinnedEntries : Prop :=
  fsmStep .full FullState.start.index 0b00#2 = .ok (FullState.start.index, .none)
  ∧ fsmStep .full FullState.start.index 0b10#2 = .ok (FullState.cwBegin.index, .none)
  ∧ fsmStep .full FullState.cwBegin.index 0b11#2 = .ok (FullState.cwNext.index, .none)
  ∧ fsmStep .full FullState.cwNext.index 0b01#2 = .ok (FullState.cwFinal.index, .none)
  ∧ fsmStep .full FullState.cwFinal.index 0b00#2 = .ok (FullState.start.index, .cw)
  ∧ fsmStep .full FullState.start.index 0b01#2 = .ok (FullState.ccwBegin.index, .none)
  ∧ fsmStep .full FullState.ccwBegin.index 0b11#2 = .ok (FullState.ccwNext.index, .none)
  ∧ fsmStep .full FullState.ccwNext.index 0b10#2 = .ok (FullState.ccwFinal.index, .none)
  ∧ fsmStep .full FullState.ccwFinal.index 0b00#2 = .ok (FullState.start.index, .ccw)
  ∧ fsmStep .full FullState.cwBegin.index 0b10#2 = .ok (FullState.cwBegin.index, .none)
  ∧ fsmStep .full FullState.cwNext.index 0b11#2 = .ok (FullState.cwNext.index, .none)
  ∧ fsmStep .full FullState.cwFinal.index 0b01#2 = .ok (FullState.cwFinal.index, .none)
  ∧ fsmStep .full FullState.ccwBegin.index 0b01#2 = .ok (FullState.ccwBegin.index, .none)
  ∧ fsmStep .full FullState.ccwNext.index 0b11#2 = .ok (FullState.ccwNext.index, .none)
  ∧ fsmStep .full FullState.ccwFinal.index 0b10#2 = .ok (FullState.ccwFinal.index, .none)

/-- R85 (b), (c): in FULL mode, after leaving START and until the machine is back there, a pulse is produced
only on symbol `00`, only into START, and only after BEGIN, NEXT and FINAL of its own direction in that order
and no other state. -/
def Obligations.PulsePassesItsChainOfStates : Prop :=
  ∀ (ys : List QuadSymbol) (vs : List StIndex) (u v : StIndex) (y : QuadSymbol) (d : Dir),
    fsmVisits .full FullState.start.index ys = some vs → FullState.start.index ∉ vs → vs.getLast? = some u →
    fsmStep .full u y = .ok (v, d) →
    (d ≠ .none → y = 0b00#2 ∧ v = FullState.start.index)
    ∧ (d = .cw → [FullState.cwBegin.index, FullState.cwNext.index, FullState.cwFinal.index].Sublist vs
        ∧ ∀ w ∈ vs, w ∈ [FullState.cwBegin.index, FullState.cwNext.index, FullState.cwFinal.index])
    ∧ (d = .ccw → [FullState.ccwBegin.index, FullState.ccwNext.index, FullState.ccwFinal.index].Sublist vs
        ∧ ∀ w ∈ vs, w ∈ [FullState.ccwBegin.index, FullState.ccwNext.index, FullState.ccwFinal.index])

/-! ### POLL -/

/-- R91: a PRESSED poll makes no lookup: from every state, legal or not, `ST` and `POS` are kept, no pulse is
produced, and only the button flags and the response change. -/
def Obligations.PressedPollMakesNoLookup : Prop :=
  ∀ (s : State) (x : Sample), classify s.cfg x = .pressed →
    exec (.poll x) s = .next { s with
      btnPending := s.btnPending || !s.btnLatched, btnLatched := true, rsp := 0x00004#17, rspValid := true }

/-- R106: what POLL does, with its whole frame. A PRESSED class: the flags by R111 and `pressed_level`. Any
other class: one table lookup, `ST` its index, `POS` by its tag, `BTN_LATCHED` cleared, the tag in the
response. -/
def Obligations.PollMeaning : Prop :=
  ∀ (s : State) (x : Sample),
    (classify s.cfg x = .pressed →
      exec (.poll x) s = .next { s with
        btnPending := (btnPoll .pressed s.btnPending s.btnLatched).1,
        btnLatched := (btnPoll .pressed s.btnPending s.btnLatched).2, rsp := 0x00004#17, rspValid := true })
    ∧ ∀ y, symbolOf (classify s.cfg x) = some y → s.Legal →
      ∃ e, tableRead s.cfg.mode s.st y = some e ∧ exec (.poll x) s = .next { s with
        st := e.extractLsb' 0 4,
        pos := if e.extractLsb' 4 2 = 0b01#2 then posInc s.cfg.posOverflow s.pos
               else if e.extractLsb' 4 2 = 0b10#2 then posDec s.cfg.posOverflow s.pos else s.pos,
        btnPending := (btnPoll (classify s.cfg x) s.btnPending s.btnLatched).1,
        btnLatched := (btnPoll (classify s.cfg x) s.btnPending s.btnLatched).2,
        rsp := 0#15 ++ e.extractLsb' 4 2, rspValid := true }

/-- R57 (c) with the model's log 6: POLL stops exactly on a lookup from an index without a table row, and is
never refused. -/
def Obligations.PollStopsOnlyOffTheTable : Prop :=
  ∀ (s : State) (x : Sample),
    (∀ f, exec (.poll x) s = .fault f ↔ f = .noTableWord ∧ ¬ s.Legal ∧ classify s.cfg x ≠ .pressed)
    ∧ ∀ r, exec (.poll x) s ≠ .refused r

/-- R110: the accumulator under both policies, at its limits and everywhere else. -/
def Obligations.AccumulatorWrapsOrClamps : Prop :=
  ∀ p : Pos,
    (posInc .wrap p).toInt = (if p.toInt = 32767 then -32768 else p.toInt + 1)
    ∧ (posDec .wrap p).toInt = (if p.toInt = -32768 then 32767 else p.toInt - 1)
    ∧ (posInc .clamp p).toInt = (if p.toInt = 32767 then 32767 else p.toInt + 1)
    ∧ (posDec .clamp p).toInt = (if p.toInt = -32768 then -32768 else p.toInt - 1)

/-- R111: the two button flags after a poll. -/
def Obligations.ButtonFlagsAfterPoll : Prop :=
  ∀ (s t : State) (x : Sample), exec (.poll x) s = .next t →
    (classify s.cfg x = .pressed → s.btnLatched = false → t.btnPending = true ∧ t.btnLatched = true)
    ∧ (classify s.cfg x = .pressed → s.btnLatched = true → t.btnPending = s.btnPending ∧ t.btnLatched = true)
    ∧ (classify s.cfg x ≠ .pressed → t.btnPending = s.btnPending ∧ t.btnLatched = false)

/-- R50, R51, R89, R127 (b): a POLL responds a press, one pulse or neither, never two of them, and `POS` moves
exactly with the pulse. -/
def Obligations.PollCountsItsOnePulse : Prop :=
  ∀ (s t : State) (x : Sample), exec (.poll x) s = .next t →
    (classify s.cfg x = .pressed ∧ t.rsp = 0x00004#17 ∧ t.pos = s.pos)
    ∨ (classify s.cfg x ≠ .pressed ∧ t.rsp = 0x00000#17 ∧ t.pos = s.pos)
    ∨ (classify s.cfg x ≠ .pressed ∧ t.rsp = 0x00001#17 ∧ t.pos = posInc s.cfg.posOverflow s.pos)
    ∨ (classify s.cfg x ≠ .pressed ∧ t.rsp = 0x00002#17 ∧ t.pos = posDec s.cfg.posOverflow s.pos)

/-- R80, R22: the next index and the response of a POLL depend on the configuration, `ST` and the sample only:
not on `POS`, the button flags or any earlier response. -/
def Obligations.DecoderReadsOnlySt : Prop :=
  ∀ (s u : State) (x : Sample), s.cfg = u.cfg → s.st = u.st → ∀ t, exec (.poll x) s = .next t →
    ∃ v, exec (.poll x) u = .next v ∧ v.st = t.st ∧ v.rsp = t.rsp

/-! ### The other operations -/

/-- R107: READ_POSITION responds the counter and changes no register; under DRAIN it is refused. -/
def Obligations.ReadPositionResponds : Prop :=
  ∀ s : State,
    (s.cfg.contract = .raw → exec .readPosition s = .next { s with rsp := 0#1 ++ s.pos, rspValid := true })
    ∧ (s.cfg.contract = .drain → exec .readPosition s = .next { s with rsp := 0x10000#17, rspValid := true })

/-- R108: HANDLE_EVENT delivers a pending press first, else one rotation event with `POS` one nearer to zero,
else NONE, and changes nothing else; under RAW it is refused. -/
def Obligations.HandleEventDelivers : Prop :=
  ∀ s : State,
    (s.cfg.contract = .drain → s.btnPending = true →
      exec .handleEvent s = .next { s with btnPending := false, rsp := 0x00003#17, rspValid := true })
    ∧ (s.cfg.contract = .drain → s.btnPending = false → 0 < s.pos.toInt →
      ∃ q : Pos, q.toInt = s.pos.toInt - 1
        ∧ exec .handleEvent s = .next { s with pos := q, rsp := 0x00001#17, rspValid := true })
    ∧ (s.cfg.contract = .drain → s.btnPending = false → s.pos.toInt < 0 →
      ∃ q : Pos, q.toInt = s.pos.toInt + 1
        ∧ exec .handleEvent s = .next { s with pos := q, rsp := 0x00002#17, rspValid := true })
    ∧ (s.cfg.contract = .drain → s.btnPending = false → s.pos.toInt = 0 →
      exec .handleEvent s = .next { s with rsp := 0x00000#17, rspValid := true })
    ∧ (s.cfg.contract = .raw → exec .handleEvent s = .next { s with rsp := 0x10000#17, rspValid := true })

/-- R109: RESET_POSITION zeroes the counter from every state and leaves the decoder state, the button flags and
everything else as they were. -/
def Obligations.ResetPositionZeroes : Prop :=
  ∀ s : State, exec .resetPosition s = .next { s with pos := 0#16, rsp := 0x00000#17, rspValid := true }

/-- R105, R114: exactly the operations the contract does not offer are refused; a refusal writes no register,
and its response is `refused = 1` with payload 0 (log 8: the machine goes on). -/
def Obligations.UnofferedOperationsAreRefused : Prop :=
  (∀ c, ∀ x : Sample, offered c (.poll x) = true ∧ offered c .resetPosition = true)
  ∧ offered .raw .readPosition = true ∧ offered .drain .readPosition = false
  ∧ offered .raw .handleEvent = false ∧ offered .drain .handleEvent = true
  ∧ ∀ (i : Instr) (s : State),
    (offered s.cfg.contract i = false → exec i s = .next { s with rsp := 0x10000#17, rspValid := true })
    ∧ (offered s.cfg.contract i = true → ∀ t, exec i s = .next t → t.rsp.extractLsb' 16 1 = 0#1)

/-- R10, R11, R15: the register writers. Only POLL writes `ST` and `BTN_LATCHED`; READ_POSITION writes no
register; POLL never clears and HANDLE_EVENT never sets `BTN_PENDING`, which nothing else writes; no operation
writes the configuration or the host's pins. -/
def Obligations.RegisterWriters : Prop :=
  ∀ (i : Instr) (s t : State), exec i s = .next t →
    t.cfg = s.cfg ∧ t.inputs = s.inputs
    ∧ (isPoll i = false → t.st = s.st ∧ t.btnLatched = s.btnLatched)
    ∧ (i = .readPosition → t.pos = s.pos ∧ t.btnPending = s.btnPending)
    ∧ (i = .resetPosition → t.btnPending = s.btnPending)
    ∧ (isPoll i = true → s.btnPending = true → t.btnPending = true)
    ∧ (i = .handleEvent → s.btnPending = false → t.btnPending = false)

/-! ### Invariants and whole-machine rules -/

/-- R16: the configuration is immutable: no clock edge changes it. -/
def Obligations.ConfigurationIsImmutable : Prop :=
  ∀ s t : State, step s = .next t → t.cfg = s.cfg

/-- R24: the invariant holds at construction, under every configuration. -/
def Obligations.ConstructionIsLegal : Prop :=
  (∀ c : Cfg, (State.construct c).Legal) ∧ State.reset.Legal

/-- R24, derived by the spec from R23 and R82: every clock edge from a state whose `ST` is legal for its mode
leads to such a state, and `POS` is in its range. -/
def Obligations.EveryEdgeKeepsLegalState : Prop :=
  ∀ s t : State, s.Legal → step s = .next t → t.Legal ∧ -32768 ≤ t.pos.toInt ∧ t.pos.toInt ≤ 32767

/-- R125: no operation, with any operand, in any legal state and under any configuration, stops the machine, nor
does any run from construction, whatever the host drives. That the states so reached are legal is R24's, which
the spec derives; that the configuration is kept is R16's; the list of coming pins is the model's (log 3). -/
def Obligations.NothingStopsALegalState : Prop :=
  (∀ s : State, s.Legal → ∀ i : Instr, ∃ t, exec i s = .next t ∧ t.Legal)
  ∧ ∀ (c : Cfg) (ps : List PinInput) (n : Nat),
    ∃ t, runEdges n { State.construct c with inputs := ps } = .next t ∧ t.Legal ∧ t.cfg = c

/-- R106, R108, R110 under WRAP: rotation is neither lost nor duplicated. Over any operations but
RESET_POSITION, the counter changes by the POLL pulses counted in less the events HANDLE_EVENT counted out. -/
def Obligations.RotationIsConserved : Prop :=
  ∀ (ops : List Instr) (s t : State) (rs : List Rsp), s.cfg.posOverflow = .wrap → .resetPosition ∉ ops →
    runOps ops s = some (t, rs) → t.pos = BitVec.ofInt 16 (s.pos.toInt + (List.zipWith rotationOf ops rs).sum)

/-- R108 (e): with no press pending, `|POS|` calls of HANDLE_EVENT drain the counter, each reporting its
direction, and leave everything but the counter and the response alone. -/
def Obligations.DrainingEmptiesTheCounter : Prop :=
  ∀ s : State, s.cfg.contract = .drain → s.btnPending = false →
    ∃ t, runOps (List.replicate s.pos.toInt.natAbs .handleEvent) s
        = some (t, List.replicate s.pos.toInt.natAbs (if 0 < s.pos.toInt then 0x00001#17 else 0x00002#17))
      ∧ t.pos = 0#16 ∧ t.st = s.st ∧ t.btnPending = false ∧ t.btnLatched = s.btnLatched

/-- R112 (a), (c): one hold gives one press. From released with nothing pending, over any sequence of
PRESSED polls and HANDLE_EVENTs, the presses delivered and the press still pending make exactly one, if there
was a poll at all. -/
def Obligations.HeldPressIsDeliveredOnce : Prop :=
  ∀ (ops : List Instr) (s : State), s.cfg.contract = .drain → s.btnPending = false → s.btnLatched = false →
    (∀ i ∈ ops, i = .handleEvent ∨ ∃ x, i = .poll x ∧ classify s.cfg x = .pressed) →
    ∃ t rs, runOps ops s = some (t, rs)
      ∧ rs.count 0x00003#17 + t.btnPending.toNat = (if ops.any isPoll then 1 else 0)

/-- R14: all four combinations of the button flags are reached from construction, under DRAIN, when some sample
is not PRESSED. -/
def Obligations.FourButtonStatesAreReached : Prop :=
  ∀ c : Cfg, c.contract = .drain → c.var.toNat < adcMax → ∀ p l : Bool,
    ∃ ops t rs, runOps ops (State.construct c) = some (t, rs) ∧ t.btnPending = p ∧ t.btnLatched = l

/-- R152's second sentence: under RAW the button flags reach the host by no operation: two states that differ
only in them give the same responses to every sequence of operations. -/
def Obligations.RawContractHidesButtonFlags : Prop :=
  ∀ (ops : List Instr) (s : State) (p l : Bool), s.cfg.contract = .raw →
    (runOps ops { s with btnPending := p, btnLatched := l }).map Prod.snd = (runOps ops s).map Prod.snd

/-- R37's promise: the READ_POSITION or HANDLE_EVENT right after a POLL that carried a pulse sees the changed
counter `q`. READ_POSITION (RAW) responds it; HANDLE_EVENT (DRAIN) with no press pending drains one from it,
reporting its sign, and with a press pending delivers the press and leaves it (R108). -/
def Obligations.PulseIsVisibleToTheNextRead : Prop :=
  ∀ (s t : State) (x : Sample) (q : Pos), exec (.poll x) s = .next t →
    (t.rsp = 0x00001#17 ∧ q = posInc s.cfg.posOverflow s.pos
      ∨ t.rsp = 0x00002#17 ∧ q = posDec s.cfg.posOverflow s.pos) →
    (s.cfg.contract = .raw →
      ∃ u, runOps [.poll x, .readPosition] s = some (u, [t.rsp, 0#1 ++ q]) ∧ u.pos = q)
    ∧ (s.cfg.contract = .drain → s.btnPending = false → 0 < q.toInt →
      ∃ u, runOps [.poll x, .handleEvent] s = some (u, [t.rsp, 0x00001#17]) ∧ u.pos.toInt = q.toInt - 1)
    ∧ (s.cfg.contract = .drain → s.btnPending = false → q.toInt < 0 →
      ∃ u, runOps [.poll x, .handleEvent] s = some (u, [t.rsp, 0x00002#17]) ∧ u.pos.toInt = q.toInt + 1)
    ∧ (s.cfg.contract = .drain → s.btnPending = false → q.toInt = 0 →
      ∃ u, runOps [.poll x, .handleEvent] s = some (u, [t.rsp, 0x00000#17]) ∧ u.pos = q)
    ∧ (s.cfg.contract = .drain → s.btnPending = true →
      ∃ u, runOps [.poll x, .handleEvent] s = some (u, [t.rsp, 0x00003#17]) ∧ u.pos = q)

/-! ### Detents -/

/-- R83 (a), (b), the source's worked example: five samples read as `00 10 11 01 00` from START count one
detent clockwise, with one pulse on the last; `00 01 11 10 00` one counter-clockwise. -/
def Obligations.FullStepDetentCountsOne : Prop :=
  ∀ (s : State) (o a b c r : Sample), s.cfg.mode = .full → s.st = FullState.start.index →
    classify s.cfg o = .opened → classify s.cfg a = .aOnly → classify s.cfg b = .both →
    classify s.cfg c = .bOnly → classify s.cfg r = .opened →
    (∃ t, runOps (polls [o, a, b, c, r]) s = some (t, [0x00000#17, 0x00000#17, 0x00000#17, 0x00000#17, 0x00001#17])
      ∧ t.st = FullState.start.index ∧ t.pos = posInc s.cfg.posOverflow s.pos)
    ∧ (∃ t, runOps (polls [o, c, b, a, r]) s = some (t, [0x00000#17, 0x00000#17, 0x00000#17, 0x00000#17, 0x00002#17])
      ∧ t.st = FullState.start.index ∧ t.pos = posDec s.cfg.posOverflow s.pos)

/-- R83 (e), R91, R106 (c), (d): a detent whose symbols are each sampled any number of times, with PRESSED
polls anywhere between, still counts exactly one, on its last poll; both directions. -/
def Obligations.RepeatedSymbolsAndPressesCountOnce : Prop :=
  ∀ (s : State) (as bs cs : List Sample) (r : Sample), s.cfg.mode = .full → s.st = FullState.start.index →
    (∀ x ∈ as, classify s.cfg x = .aOnly ∨ classify s.cfg x = .pressed) → (∃ x ∈ as, classify s.cfg x = .aOnly) →
    (∀ x ∈ bs, classify s.cfg x = .both ∨ classify s.cfg x = .pressed) → (∃ x ∈ bs, classify s.cfg x = .both) →
    (∀ x ∈ cs, classify s.cfg x = .bOnly ∨ classify s.cfg x = .pressed) → (∃ x ∈ cs, classify s.cfg x = .bOnly) →
    classify s.cfg r = .opened →
    (∃ t rs, runOps (polls (as ++ bs ++ cs ++ [r])) s = some (t, rs ++ [0x00001#17])
      ∧ (∀ w ∈ rs, w = 0x00000#17 ∨ w = 0x00004#17)
      ∧ t.st = FullState.start.index ∧ t.pos = posInc s.cfg.posOverflow s.pos)
    ∧ (∃ t rs, runOps (polls (cs ++ bs ++ as ++ [r])) s = some (t, rs ++ [0x00002#17])
      ∧ (∀ w ∈ rs, w = 0x00000#17 ∨ w = 0x00004#17)
      ∧ t.st = FullState.start.index ∧ t.pos = posDec s.cfg.posOverflow s.pos)

/-- R85 (d): contacts that chatter between two adjacent symbols of a chain give no pulse and still let the
detent complete. First the last two steps (NEXT and FINAL, FINAL stepping back on `11`); then, from BEGIN or
NEXT, chatter between the first two (NEXT stepping back on the BEGIN symbol) followed by chatter between the
last two; both directions. -/
def Obligations.AdjacentChatterKeepsTheChain : Prop :=
  ∀ (s : State) (zs ws : List Sample) (a b c r : Sample), s.cfg.mode = .full →
    classify s.cfg a = .aOnly → classify s.cfg b = .both → classify s.cfg c = .bOnly → classify s.cfg r = .opened →
    (s.st = FullState.cwNext.index ∨ s.st = FullState.cwFinal.index →
      (∀ x ∈ zs, classify s.cfg x = .both ∨ classify s.cfg x = .bOnly) →
      ∃ t, runOps (polls (zs ++ [c, r])) s = some (t, List.replicate (zs.length + 1) 0x00000#17 ++ [0x00001#17])
        ∧ t.st = FullState.start.index ∧ t.pos = posInc s.cfg.posOverflow s.pos)
    ∧ (s.st = FullState.ccwNext.index ∨ s.st = FullState.ccwFinal.index →
      (∀ x ∈ zs, classify s.cfg x = .both ∨ classify s.cfg x = .aOnly) →
      ∃ t, runOps (polls (zs ++ [a, r])) s = some (t, List.replicate (zs.length + 1) 0x00000#17 ++ [0x00002#17])
        ∧ t.st = FullState.start.index ∧ t.pos = posDec s.cfg.posOverflow s.pos)
    ∧ (s.st = FullState.cwBegin.index ∨ s.st = FullState.cwNext.index →
      (∀ x ∈ zs, classify s.cfg x = .aOnly ∨ classify s.cfg x = .both) →
      (∀ x ∈ ws, classify s.cfg x = .both ∨ classify s.cfg x = .bOnly) →
      ∃ t, runOps (polls (zs ++ [b] ++ ws ++ [c, r])) s
          = some (t, List.replicate (zs.length + ws.length + 2) 0x00000#17 ++ [0x00001#17])
        ∧ t.st = FullState.start.index ∧ t.pos = posInc s.cfg.posOverflow s.pos)
    ∧ (s.st = FullState.ccwBegin.index ∨ s.st = FullState.ccwNext.index →
      (∀ x ∈ zs, classify s.cfg x = .bOnly ∨ classify s.cfg x = .both) →
      (∀ x ∈ ws, classify s.cfg x = .both ∨ classify s.cfg x = .aOnly) →
      ∃ t, runOps (polls (zs ++ [b] ++ ws ++ [a, r])) s
          = some (t, List.replicate (zs.length + ws.length + 2) 0x00000#17 ++ [0x00002#17])
        ∧ t.st = FullState.start.index ∧ t.pos = posDec s.cfg.posOverflow s.pos)

/-- R85 (c): from START, a pulse needs its whole chain: the classes sampled up to it hold A_ONLY, BOTH, B_ONLY,
OPEN in that order for a clockwise pulse, B_ONLY, BOTH, A_ONLY, OPEN for a counter-clockwise one. -/
def Obligations.PulseNeedsItsWholeChain : Prop :=
  ∀ (s u t : State) (xs : List Sample) (x : Sample) (rs : List Rsp),
    s.cfg.mode = .full → s.st = FullState.start.index →
    runOps (polls xs) s = some (u, rs) → exec (.poll x) u = .next t →
    (t.rsp = 0x00001#17 → [.aOnly, .both, .bOnly, .opened].Sublist ((xs ++ [x]).map (classify s.cfg)))
    ∧ (t.rsp = 0x00002#17 → [.bOnly, .both, .aOnly, .opened].Sublist ((xs ++ [x]).map (classify s.cfg)))

/-- R83 (d), bounce rejection, in FULL mode. From every legal state, START among them, a run of POLLs in which no
OPEN sample is polled in CW_FINAL or CCW_FINAL gives no pulse and leaves the position alone: so do a chain
abandoned at any step and a chain walked all the way back. From START a run whose classes nowhere hold a whole
chain in order is such a run. -/
def Obligations.IncompleteChainKeepsPosition : Prop :=
  ∀ (s : State) (xs : List Sample), s.cfg.mode = .full →
    (s.Legal → completesNoChain xs s = true →
      ∃ t rs, runOps (polls xs) s = some (t, rs) ∧ t.pos = s.pos ∧ ∀ w ∈ rs, w = 0x00000#17 ∨ w = 0x00004#17)
    ∧ (s.st = FullState.start.index →
      ¬ [.aOnly, .both, .bOnly, .opened].Sublist (xs.map (classify s.cfg)) →
      ¬ [.bOnly, .both, .aOnly, .opened].Sublist (xs.map (classify s.cfg)) →
      completesNoChain xs s = true ∧ ∃ t rs, runOps (polls xs) s = some (t, rs) ∧ t.pos = s.pos)

/-- R86: in HALF mode a clean detent gives two pulses, on the poll that reads both contacts closed and on the
one that reads both open again; leaving a rest symbol and coming back gives none. -/
def Obligations.HalfStepDetentCountsTwo : Prop :=
  ∀ (s : State) (a b c r : Sample), s.cfg.mode = .half →
    classify s.cfg a = .aOnly → classify s.cfg b = .both → classify s.cfg c = .bOnly → classify s.cfg r = .opened →
    (s.st = HalfState.start.index →
      (∃ t, runOps (polls [a, b, c, r]) s = some (t, [0x00000#17, 0x00001#17, 0x00000#17, 0x00001#17])
        ∧ t.st = HalfState.start.index ∧ t.pos = posInc s.cfg.posOverflow (posInc s.cfg.posOverflow s.pos))
      ∧ (∃ t, runOps (polls [c, b, a, r]) s = some (t, [0x00000#17, 0x00002#17, 0x00000#17, 0x00002#17])
        ∧ t.st = HalfState.start.index ∧ t.pos = posDec s.cfg.posOverflow (posDec s.cfg.posOverflow s.pos))
      ∧ ∀ z, z = a ∨ z = c → ∃ t, runOps (polls [z, r]) s = some (t, [0x00000#17, 0x00000#17])
        ∧ t.st = HalfState.start.index ∧ t.pos = s.pos)
    ∧ (s.st = HalfState.startM.index → ∀ z, z = a ∨ z = c →
      ∃ t, runOps (polls [z, b]) s = some (t, [0x00000#17, 0x00000#17])
        ∧ t.st = HalfState.startM.index ∧ t.pos = s.pos)

/-- R153: a RESET_POSITION or a HANDLE_EVENT between the polls of a chain, in any state of any chain of either
mode, leaves `ST` alone and does not cancel the chain; the completing poll counts on from what the operation
left: from 0 after RESET_POSITION (so POS = 1 or -1, not 0), and after a HANDLE_EVENT that drained a rotation
(DRAIN, no press pending) from a counter one nearer to 0. -/
def Obligations.ResetInsideChainCountsFromZero : Prop :=
  ∀ (s : State) (q : Instr) (xs : List Sample) (cs : List SampleClass) (d : Dir),
    chainRest s.cfg.mode s.st = some (cs, d) → xs.map (classify s.cfg) = cs →
    q = .resetPosition ∨ q = .handleEvent →
    ∃ v t, exec q s = .next v ∧ v.st = s.st
      ∧ runOps (q :: polls xs) s
        = some (t, v.rsp :: (List.replicate (xs.length - 1) 0x00000#17 ++ [0#15 ++ d.code]))
      ∧ t.pos = countDir s.cfg.posOverflow d v.pos
      ∧ (q = .resetPosition → v.pos = 0#16 ∧ t.pos.toInt = (if d = .cw then 1 else -1))
      ∧ (q = .handleEvent → s.cfg.contract = .drain → s.btnPending = false →
          v.pos.toInt.natAbs = s.pos.toInt.natAbs - 1)
      ∧ (q = .handleEvent → s.cfg.contract = .raw ∨ s.btnPending = true → v.pos = s.pos)

/-- R61: under `NominalsClassify` a pseudo-operation means what its name says: `SYM y` samples the symbol `y`,
`PRESS` a press, and the detents count one each way in FULL mode from START. -/
def Obligations.PseudoOperationsMeanTheirNames : Prop :=
  ∀ s : State, NominalsClassify s.cfg →
    (∀ y, expand s.cfg (.sym y) = [.poll (nominalSample s.cfg y)]
      ∧ symbolOf (classify s.cfg (nominalSample s.cfg y)) = some y)
    ∧ (∃ x, expand s.cfg .press = [.poll x] ∧ classify s.cfg x = .pressed)
    ∧ (s.cfg.mode = .full → s.st = FullState.start.index →
      (∃ t rs, runOps (expand s.cfg .detentCw) s = some (t, rs)
        ∧ t.st = FullState.start.index ∧ t.pos = posInc s.cfg.posOverflow s.pos)
      ∧ (∃ t rs, runOps (expand s.cfg .detentCcw) s = some (t, rs)
        ∧ t.st = FullState.start.index ∧ t.pos = posDec s.cfg.posOverflow s.pos))
end

