-- ==== Sys2Proof/Laws/State.lean ====
section
/-! SUPPORT. One lemma per field per write of the state, each true by unfolding the write once, so that no
later proof unfolds a record update. -/

namespace Sys2Proof.Machine

@[simp] theorem State.setSt_cfg (s : State) (v : StIndex) : (s.setSt v).cfg = s.cfg := rfl
@[simp] theorem State.setSt_st (s : State) (v : StIndex) : (s.setSt v).st = v := rfl
@[simp] theorem State.setSt_pos (s : State) (v : StIndex) : (s.setSt v).pos = s.pos := rfl
@[simp] theorem State.setSt_btnPending (s : State) (v : StIndex) : (s.setSt v).btnPending = s.btnPending := rfl
@[simp] theorem State.setSt_btnLatched (s : State) (v : StIndex) : (s.setSt v).btnLatched = s.btnLatched := rfl
@[simp] theorem State.setSt_rspValid (s : State) (v : StIndex) : (s.setSt v).rspValid = s.rspValid := rfl
@[simp] theorem State.setSt_rsp (s : State) (v : StIndex) : (s.setSt v).rsp = s.rsp := rfl
@[simp] theorem State.setSt_inputs (s : State) (v : StIndex) : (s.setSt v).inputs = s.inputs := rfl

@[simp] theorem State.setPos_cfg (s : State) (v : Pos) : (s.setPos v).cfg = s.cfg := rfl
@[simp] theorem State.setPos_st (s : State) (v : Pos) : (s.setPos v).st = s.st := rfl
@[simp] theorem State.setPos_pos (s : State) (v : Pos) : (s.setPos v).pos = v := rfl
@[simp] theorem State.setPos_btnPending (s : State) (v : Pos) : (s.setPos v).btnPending = s.btnPending := rfl
@[simp] theorem State.setPos_btnLatched (s : State) (v : Pos) : (s.setPos v).btnLatched = s.btnLatched := rfl
@[simp] theorem State.setPos_rspValid (s : State) (v : Pos) : (s.setPos v).rspValid = s.rspValid := rfl
@[simp] theorem State.setPos_rsp (s : State) (v : Pos) : (s.setPos v).rsp = s.rsp := rfl
@[simp] theorem State.setPos_inputs (s : State) (v : Pos) : (s.setPos v).inputs = s.inputs := rfl

@[simp] theorem State.setButtons_cfg (s : State) (p l : Bool) : (s.setButtons p l).cfg = s.cfg := rfl
@[simp] theorem State.setButtons_st (s : State) (p l : Bool) : (s.setButtons p l).st = s.st := rfl
@[simp] theorem State.setButtons_pos (s : State) (p l : Bool) : (s.setButtons p l).pos = s.pos := rfl
@[simp] theorem State.setButtons_btnPending (s : State) (p l : Bool) : (s.setButtons p l).btnPending = p := rfl
@[simp] theorem State.setButtons_btnLatched (s : State) (p l : Bool) : (s.setButtons p l).btnLatched = l := rfl
@[simp] theorem State.setButtons_rspValid (s : State) (p l : Bool) : (s.setButtons p l).rspValid = s.rspValid := rfl
@[simp] theorem State.setButtons_rsp (s : State) (p l : Bool) : (s.setButtons p l).rsp = s.rsp := rfl
@[simp] theorem State.setButtons_inputs (s : State) (p l : Bool) : (s.setButtons p l).inputs = s.inputs := rfl

@[simp] theorem State.respond_cfg (s : State) (r : Response) : (s.respond r).cfg = s.cfg := rfl
@[simp] theorem State.respond_st (s : State) (r : Response) : (s.respond r).st = s.st := rfl
@[simp] theorem State.respond_pos (s : State) (r : Response) : (s.respond r).pos = s.pos := rfl
@[simp] theorem State.respond_btnPending (s : State) (r : Response) : (s.respond r).btnPending = s.btnPending := rfl
@[simp] theorem State.respond_btnLatched (s : State) (r : Response) : (s.respond r).btnLatched = s.btnLatched := rfl
@[simp] theorem State.respond_rspValid (s : State) (r : Response) : (s.respond r).rspValid = true := rfl
@[simp] theorem State.respond_rsp (s : State) (r : Response) : (s.respond r).rsp = r.word := rfl
@[simp] theorem State.respond_inputs (s : State) (r : Response) : (s.respond r).inputs = s.inputs := rfl

@[simp] theorem refuse_cfg (s : State) : (refuse s).cfg = s.cfg := rfl
@[simp] theorem refuse_st (s : State) : (refuse s).st = s.st := rfl
@[simp] theorem refuse_pos (s : State) : (refuse s).pos = s.pos := rfl
@[simp] theorem refuse_btnPending (s : State) : (refuse s).btnPending = s.btnPending := rfl
@[simp] theorem refuse_btnLatched (s : State) : (refuse s).btnLatched = s.btnLatched := rfl
@[simp] theorem refuse_rspValid (s : State) : (refuse s).rspValid = true := rfl
@[simp] theorem refuse_rsp (s : State) : (refuse s).rsp = Response.refused.word := rfl
@[simp] theorem refuse_inputs (s : State) : (refuse s).inputs = s.inputs := rfl

@[simp] theorem popPins_cfg (s : State) : (popPins s).cfg = s.cfg := rfl
@[simp] theorem popPins_st (s : State) : (popPins s).st = s.st := rfl
@[simp] theorem popPins_pos (s : State) : (popPins s).pos = s.pos := rfl
@[simp] theorem popPins_btnPending (s : State) : (popPins s).btnPending = s.btnPending := rfl
@[simp] theorem popPins_btnLatched (s : State) : (popPins s).btnLatched = s.btnLatched := rfl
@[simp] theorem popPins_rspValid (s : State) : (popPins s).rspValid = s.rspValid := rfl
@[simp] theorem popPins_rsp (s : State) : (popPins s).rsp = s.rsp := rfl
@[simp] theorem popPins_inputs (s : State) : (popPins s).inputs = s.inputs.tail := rfl

@[simp] theorem rstEdge_cfg (s : State) : (rstEdge s).cfg = s.cfg := rfl
@[simp] theorem rstEdge_st (s : State) : (rstEdge s).st = 0#4 := rfl
@[simp] theorem rstEdge_pos (s : State) : (rstEdge s).pos = 0#16 := rfl
@[simp] theorem rstEdge_btnPending (s : State) : (rstEdge s).btnPending = false := rfl
@[simp] theorem rstEdge_btnLatched (s : State) : (rstEdge s).btnLatched = false := rfl
@[simp] theorem rstEdge_rspValid (s : State) : (rstEdge s).rspValid = false := rfl
@[simp] theorem rstEdge_rsp (s : State) : (rstEdge s).rsp = s.rsp := rfl
@[simp] theorem rstEdge_inputs (s : State) : (rstEdge s).inputs = s.inputs := rfl

@[simp] theorem idleEdge_cfg (s : State) : (idleEdge s).cfg = s.cfg := rfl
@[simp] theorem idleEdge_st (s : State) : (idleEdge s).st = s.st := rfl
@[simp] theorem idleEdge_pos (s : State) : (idleEdge s).pos = s.pos := rfl
@[simp] theorem idleEdge_btnPending (s : State) : (idleEdge s).btnPending = s.btnPending := rfl
@[simp] theorem idleEdge_btnLatched (s : State) : (idleEdge s).btnLatched = s.btnLatched := rfl
@[simp] theorem idleEdge_rspValid (s : State) : (idleEdge s).rspValid = false := rfl
@[simp] theorem idleEdge_rsp (s : State) : (idleEdge s).rsp = s.rsp := rfl
@[simp] theorem idleEdge_inputs (s : State) : (idleEdge s).inputs = s.inputs := rfl

@[simp] theorem drivePins_cfg (s : State) (p : PinInput) : (drivePins s p).cfg = s.cfg := rfl
@[simp] theorem drivePins_st (s : State) (p : PinInput) : (drivePins s p).st = s.st := rfl
@[simp] theorem drivePins_pos (s : State) (p : PinInput) : (drivePins s p).pos = s.pos := rfl
@[simp] theorem drivePins_btnPending (s : State) (p : PinInput) : (drivePins s p).btnPending = s.btnPending := rfl
@[simp] theorem drivePins_btnLatched (s : State) (p : PinInput) : (drivePins s p).btnLatched = s.btnLatched := rfl
@[simp] theorem drivePins_rspValid (s : State) (p : PinInput) : (drivePins s p).rspValid = s.rspValid := rfl
@[simp] theorem drivePins_rsp (s : State) (p : PinInput) : (drivePins s p).rsp = s.rsp := rfl
@[simp] theorem drivePins_inputs (s : State) (p : PinInput) : (drivePins s p).inputs = p :: s.inputs := rfl

@[simp] theorem State.construct_cfg (c : Cfg) : (State.construct c).cfg = c := rfl
@[simp] theorem State.construct_st (c : Cfg) : (State.construct c).st = 0#4 := rfl
@[simp] theorem State.construct_pos (c : Cfg) : (State.construct c).pos = 0#16 := rfl
@[simp] theorem State.construct_btnPending (c : Cfg) : (State.construct c).btnPending = false := rfl
@[simp] theorem State.construct_btnLatched (c : Cfg) : (State.construct c).btnLatched = false := rfl
@[simp] theorem State.construct_rspValid (c : Cfg) : (State.construct c).rspValid = false := rfl
@[simp] theorem State.construct_rsp (c : Cfg) : (State.construct c).rsp = 0#17 := rfl
@[simp] theorem State.construct_inputs (c : Cfg) : (State.construct c).inputs = [] := rfl

end Sys2Proof.Machine
end

