-- ==== Sys2Proof/Laws/Ops.lean ====
section
/-! SUPPORT. What each shared operation can do, said once: the pins of an edge, the classes without a symbol,
the lookup, the accumulator, the button flags. -/

namespace Sys2Proof.Machine

/-- The pins an edge takes are the oldest the host placed. -/
@[simp] theorem nextPins_drivePins (s : State) (p : PinInput) : nextPins (drivePins s p) = p := rfl

/-- Taking the pins just placed gives the state back. -/
@[simp] theorem popPins_drivePins (s : State) (p : PinInput) : popPins (drivePins s p) = s := rfl

theorem nextPins_of_cons (s : State) (p : PinInput) (rest : List PinInput) (h : s.inputs = p :: rest) :
    nextPins s = p ∧ popPins s = { s with inputs := rest } := by
  simp [nextPins, popPins, h]

theorem nextPins_of_nil (s : State) (h : s.inputs = []) : nextPins s = idlePins ∧ popPins s = s := by
  obtain ⟨_, _, _, _, _, _, _, _⟩ := s
  simp_all [nextPins, popPins]

/-- PRESSED is the one class without a symbol. -/
theorem symbolOf_eq_none_iff (c : SampleClass) : symbolOf c = none ↔ c = .pressed := by
  cases c <;> simp [symbolOf]

/-- A class is the one its symbol names. -/
theorem symbolOf_injective (c d : SampleClass) (h : symbolOf c = symbolOf d) : c = d := by
  revert h; cases c <;> cases d <;> decide

/-- A lookup that answers has read one entry: its index field and the direction of its tag. -/
theorem fsmStep_ok_iff (m : Mode) (s : StIndex) (y : QuadSymbol) (r : StIndex × Dir) :
    fsmStep m s y = .ok r ↔
      ∃ e, tableRead m s y = some e ∧ dirOfTag (entryTag e) = some r.2 ∧ entryIndex e = r.1 := by
  obtain ⟨i, d⟩ := r
  unfold fsmStep
  split <;> simp_all
  split <;> simp_all
  exact and_comm

/-- The tag of a direction code is that direction. -/
theorem dirOfTag_code (d : Dir) : dirOfTag d.code = some d := by
  cases d <;> decide

/-- A tag that carries a direction is that direction's code. -/
theorem dirOfTag_eq_some_iff (t : BitVec 2) (d : Dir) : dirOfTag t = some d ↔ t = d.code := by
  revert t; cases d <;> decide

/-- The accumulator's next value, by direction. -/
@[simp] theorem countDir_none (o : Overflow) (p : Pos) : countDir o .none p = p := rfl
@[simp] theorem countDir_cw (o : Overflow) (p : Pos) : countDir o .cw p = posInc o p := rfl
@[simp] theorem countDir_ccw (o : Overflow) (p : Pos) : countDir o .ccw p = posDec o p := rfl

/-- A result inside the counter's range is kept by either policy. -/
theorem narrowPos_toInt (o : Overflow) (z : Int) (lo : -32768 ≤ z) (hi : z ≤ 32767) :
    (narrowPos o z).toInt = z := by
  have hw : (BitVec.ofInt 16 z).toInt = z := by
    rw [BitVec.toInt_ofInt]
    exact Int.bmod_eq_of_le (by omega) (by omega)
  cases o
  · exact hw
  · simpa [narrowPos, clamp16, max_eq_right lo, min_eq_right hi] using hw

/-- The range of the counter (R12). -/
theorem pos_range (p : Pos) : -32768 ≤ p.toInt ∧ p.toInt ≤ 32767 := by
  constructor
  · exact BitVec.le_toInt p
  · have := BitVec.toInt_lt (x := p); norm_num at this; omega

/-- The button flags, by class and hold. -/
@[simp] theorem btnPoll_pressed_new (p : Bool) : btnPoll .pressed p false = (true, true) := rfl
@[simp] theorem btnPoll_pressed_held (p : Bool) : btnPoll .pressed p true = (p, true) := rfl

theorem btnPoll_released (c : SampleClass) (p l : Bool) (h : c ≠ .pressed) : btnPoll c p l = (p, false) := by
  simp [btnPoll, h]

end Sys2Proof.Machine
end

