-- ==== Sys2Proof/Laws/Exec.lean ====
section
/-! SUPPORT. What each meaning and one edge can do: inversion lemmas, and how runs of operations compose. -/

namespace Sys2Proof.Machine

/-- A POLL that answers a next state was PRESSED, or looked its symbol up. -/
theorem execPoll_next_cases (x : Sample) (s t : State) (h : execPoll x s = .next t) :
    (classify s.cfg x = .pressed ∧ t = pollPressed s) ∨
    (∃ y r, symbolOf (classify s.cfg x) = some y ∧ fsmStep s.cfg.mode s.st y = .ok r
      ∧ t = pollMoved (classify s.cfg x) r s) := by
  unfold execPoll at h
  split at h
  · next hy => exact .inl ⟨(symbolOf_eq_none_iff _).1 hy, by simpa using h.symm⟩
  · next y hy =>
    split at h
    · cases h
    · next r hr => exact .inr ⟨y, r, hy, hr, by simpa using h.symm⟩

/-- A POLL whose class is PRESSED always completes. -/
theorem execPoll_of_pressed (x : Sample) (s : State) (h : classify s.cfg x = .pressed) :
    execPoll x s = .next (pollPressed s) := by
  simp [execPoll, h, symbolOf]

/-- A POLL whose lookup answers completes with its result. -/
theorem execPoll_of_lookup (x : Sample) (s : State) (y : QuadSymbol) (r : StIndex × Dir)
    (hy : symbolOf (classify s.cfg x) = some y) (hr : fsmStep s.cfg.mode s.st y = .ok r) :
    execPoll x s = .next (pollMoved (classify s.cfg x) r s) := by
  simp [execPoll, hy, hr]

/-- What HANDLE_EVENT does under its contract, by what is pending. -/
theorem deliverEvent_cases (s : State) :
    (s.btnPending = true ∧ deliverEvent s = (s.setButtons false s.btnLatched).respond (.event .press)) ∨
    (s.btnPending = false ∧ 0 < s.pos.toInt
      ∧ deliverEvent s = (s.setPos (wrap16 (s.pos.toInt - 1))).respond (.event .cw)) ∨
    (s.btnPending = false ∧ s.pos.toInt < 0
      ∧ deliverEvent s = (s.setPos (wrap16 (s.pos.toInt + 1))).respond (.event .ccw)) ∨
    (s.btnPending = false ∧ s.pos.toInt = 0 ∧ deliverEvent s = s.respond (.event .none)) := by
  by_cases hb : s.btnPending = true
  · exact .inl ⟨hb, by simp [deliverEvent, hb]⟩
  · have hf : s.btnPending = false := by simpa using hb
    rcases lt_trichotomy 0 s.pos.toInt with hp | hz | hn
    · exact .inr (.inl ⟨hf, hp, by simp [deliverEvent, hf, towardZero, hp]⟩)
    · exact .inr (.inr (.inr ⟨hf, hz.symm, by simp [deliverEvent, hf, ← hz]⟩))
    · exact .inr (.inr (.inl ⟨hf, hn, by simp [deliverEvent, hf, towardZero, hn, not_lt.2 hn.le]⟩))

/-- One edge, by the pins it takes. -/
theorem step_cases (s : State) :
    ((nextPins s).rst = true ∧ step s = .next (rstEdge (popPins s))) ∨
    ((nextPins s).rst = false ∧ (nextPins s).cmdValid = true
      ∧ step s = exec (decode (nextPins s).cmd) (popPins s)) ∨
    ((nextPins s).rst = false ∧ (nextPins s).cmdValid = false ∧ step s = .next (idleEdge (popPins s))) := by
  cases hr : (nextPins s).rst <;> cases hc : (nextPins s).cmdValid <;> simp [step, hr, hc]

/-- A run of edges whose first edge completes is the run of the rest. -/
theorem runEdges_succ_of_next (n : Nat) (s t : State) (h : step s = .next t) :
    runEdges (n + 1) s = runEdges n t := by
  simp [runEdges, Host.Core.run, core, h]

theorem runEdges_zero (s : State) : runEdges 0 s = .next s := rfl

theorem runOps_nil (s : State) : runOps [] s = some (s, []) := rfl

/-- A run whose first operation completes is that operation and the run of the rest. -/
theorem runOps_cons_of_next (i : Instr) (is : List Instr) (s t : State) (h : exec i s = .next t) :
    runOps (i :: is) s = (runOps is t).map fun r => (r.1, t.rsp :: r.2) := by
  simp [runOps, h]

/-- A run that answers has completed its first operation. -/
theorem runOps_cons_some (i : Instr) (is : List Instr) (s u : State) (rs : List Rsp)
    (h : runOps (i :: is) s = some (u, rs)) :
    ∃ t qs, exec i s = .next t ∧ runOps is t = some (u, qs) ∧ rs = t.rsp :: qs := by
  unfold runOps at h
  split at h
  · next t ht =>
    simp only [Option.map_eq_some_iff, Prod.exists, Prod.mk.injEq] at h
    obtain ⟨a, b, hab, rfl, rfl⟩ := h
    exact ⟨t, b, ht, hab, rfl⟩
  · cases h
  · cases h

/-- Whether polling completes no chain, by its first POLL. -/
theorem completesNoChain_cons_of_next (x : Sample) (xs : List Sample) (s t : State) (h : exec (.poll x) s = .next t) :
    completesNoChain (x :: xs) s = true ↔
      ¬ (classify s.cfg x = .opened ∧ (s.st = FullState.cwFinal.index ∨ s.st = FullState.ccwFinal.index))
        ∧ completesNoChain xs t = true := by
  simp [completesNoChain, h, imp_iff_not_or]

/-- A state with a chain to complete is legal for its mode. -/
theorem chainRest_legal (m : Mode) (s : StIndex) (r : List SampleClass × Dir) (h : chainRest m s = some r) :
    s.toNat < stateCount m := by
  revert h; revert s; cases m <;> intro s h <;> simp only [chainRest] at h <;>
    split_ifs at h <;> subst_vars <;> decide

/-- Runs compose. -/
theorem runOps_append (is js : List Instr) (s t : State) (rs : List Rsp) (h : runOps is s = some (t, rs)) :
    runOps (is ++ js) s = (runOps js t).map fun r => (r.1, rs ++ r.2) := by
  induction is generalizing s rs with
  | nil => cases h; simp
  | cons i is ih =>
    obtain ⟨u, qs, hu, hq, rfl⟩ := runOps_cons_some i is s t rs h
    rw [List.cons_append, runOps_cons_of_next i _ s u hu, ih u qs hq]
    cases runOps js t <;> rfl

end Sys2Proof.Machine
end

