-- ==== Sys2Proof/Laws/PerInstr.lean ====
section
/-! SUPPORT. Per-operation families. EncodingRow: the command word of an operation matches its own row of
spec/opcode_table.json (its `match` under its `mask` 0xC00) and its operand stands in bits 9:0 (R46, R47). -/

/-- The row's `match` value in spec/opcode_table.json. -/
def Sys2Proof.Laws.EncodingRow.rowMatch : Sys2Proof.Instr → Sys2Proof.Cmd
  | .poll _ => 0x000#12
  | .readPosition => 0x400#12
  | .handleEvent => 0x800#12
  | .resetPosition => 0xC00#12

/-- The operation's word matches its row, and its low ten bits are its operand. -/
def Sys2Proof.Laws.EncodingRow.Statement (i : Sys2Proof.Instr) : Prop :=
  Sys2Proof.encode i &&& 0xC00#12 = Sys2Proof.Laws.EncodingRow.rowMatch i
    ∧ (Sys2Proof.encode i).extractLsb' 0 10 = Sys2Proof.operandOf i

theorem Sys2Proof.Laws.EncodingRow.poll (sample : Sys2Proof.Sample) :
    Sys2Proof.Laws.EncodingRow.Statement (.poll sample) := by
  revert sample
  unfold Sys2Proof.Laws.EncodingRow.Statement
  decide +kernel

theorem Sys2Proof.Laws.EncodingRow.readPosition :
    Sys2Proof.Laws.EncodingRow.Statement .readPosition := by
  constructor <;> decide

theorem Sys2Proof.Laws.EncodingRow.handleEvent :
    Sys2Proof.Laws.EncodingRow.Statement .handleEvent := by
  constructor <;> decide

theorem Sys2Proof.Laws.EncodingRow.resetPosition :
    Sys2Proof.Laws.EncodingRow.Statement .resetPosition := by
  constructor <;> decide
end

