-- ==== Sys2Proof/Tests/Slice0.lean ====
section
/-! SUPPORT. Tests and witnesses. Expected results come from spec/95_test_vectors.md (the section is named at
each test) or from a rule's worked example; a witness shows values that meet the hypotheses of the statement it
is named after. -/

namespace Sys2Proof.Tests

open Sys2Proof Sys2Proof.Machine

/-! ### Helpers -/

/-- 95_test_vectors.md, configuration K1. -/
def k1 : Cfg := ⟨300#10, 700#10, 50#10, 264#10, .full, .drain, .wrap⟩

/-- 95_test_vectors.md, configuration K2, with a mode, a contract and an overflow policy. -/
def k2 (m : Mode) (k : Contract) (o : Overflow) : Cfg := ⟨400#10, 800#10, 15#10, 360#10, m, k, o⟩

/-- K2 in its default form: FULL, DRAIN, WRAP. -/
def k2d : Cfg := k2 .full .drain .wrap

/-- A state `(ST, POS, PENDING, LATCHED)` under a configuration. -/
def mk (c : Cfg) (st : Nat) (pos : Int) (p l : Bool) : State :=
  { State.construct c with st := BitVec.ofNat 4 st, pos := BitVec.ofInt 16 pos, btnPending := p, btnLatched := l }

/-- The next state of an outcome, if it is one. -/
def nextOf : Host.Outcome State Fault Refusal → Option State
  | .next t => some t
  | .fault _ => none
  | .refused _ => none

/-- The response and the four registers of an outcome, as the vectors write them. -/
def seen (o : Host.Outcome State Fault Refusal) : Option (Nat × Nat × Int × Bool × Bool) :=
  (nextOf o).map fun t => (t.rsp.toNat, t.st.toNat, t.pos.toInt, t.btnPending, t.btnLatched)

/-- The responses of a run. -/
def said (ops : List Instr) (s : State) : Option (List Nat) := (runOps ops s).map fun r => r.2.map BitVec.toNat

/-! ### Decoding: words written out from R46 and R47 -/

/-- Section 6: `0x14A` is `POLL 330`. -/
theorem test_decode_poll : decode 0b000101001010#12 = .poll 330#10 := by decide

/-- Section 6: `0x7FF` is `READPOS`, sample bits ignored. -/
theorem test_decode_read_position : decode 0b011111111111#12 = .readPosition := by decide

/-- Section 6: `0xA5A` is `HANDLE`, sample bits ignored. -/
theorem test_decode_handle_event : decode 0b101001011010#12 = .handleEvent := by decide

/-- Section 6: `0xFFF` is `RESETPOS`, sample bits ignored. -/
theorem test_decode_reset_position : decode 0b111111111111#12 = .resetPosition := by decide

/-- R60: the canonical words. -/
theorem test_encode_words :
    encode (.poll 1023#10) = 0x3FF#12 ∧ encode .readPosition = 0x400#12
      ∧ encode .handleEvent = 0x800#12 ∧ encode .resetPosition = 0xC00#12 := by decide

/-- A number above the 12 bits of the one command length is rejected by name (R46). -/
theorem test_decode_wide_word : decodeNat 4096 = .error .wordTooWide ∧ decodeTableWord 16 0xF400 = none := by
  decide

/-- The placed word is the one the first step after reset runs (R58). -/
theorem test_placed_word_runs :
    seen (step (State.reset.withFetchWord 12 0x3FF)) = some (0x00000, 0, 0, false, false) := by decide

/-! ### WellFormed: each check refuses an ill-formed term -/

theorem test_wf_sample_refuses_1024 : sampleInRange 1024 = false ∧ sampleInRange 1023 = true := by decide
theorem test_wf_word_refuses_4096 : wordInRange 4096 = false ∧ wordInRange 4095 = true := by decide
theorem test_wf_readings_refuse_zeros :
    readingsDerivable 0#10 0#10 = false ∧ readingsDerivable 0#10 500#10 = true := by decide

/-- No operation is ill formed: every 10-bit operand is a sample (R48). -/
theorem test_wf_every_operation (i : Instr) : i.wf = true := by
  cases i with
  | poll s => have := s.isLt; simp [Instr.wf, sampleInRange, adcMax]; omega
  | readPosition => rfl
  | handleEvent => rfl
  | resetPosition => rfl

/-! ### The classifier (section 2) -/

/-- Section 2.2, K1: both edges of every band. -/
theorem test_classify_k1_edges :
    [50, 51, 213, 214, 314, 315, 350, 351, 649, 650, 750, 751].map (fun n => classify k1 (BitVec.ofNat 10 n))
      = [.pressed, .opened, .opened, .both, .both, .aOnly, .aOnly, .opened, .opened, .bOnly, .bOnly, .opened] := by
  decide

/-- Section 2.3, V4: lower bounds below 0 do not wrap. -/
theorem test_classify_negative_bounds :
    [0, 15, 16, 24, 25, 26].map (fun n => classify ⟨10#10, 800#10, 15#10, 9#10, .full, .drain, .wrap⟩ (BitVec.ofNat 10 n))
      = [.pressed, .pressed, .both, .both, .aOnly, .opened] := by decide

/-- Section 2.3, V3: an upper bound above `ADC_MAX` does not wrap. -/
theorem test_classify_high_bounds :
    [1004, 1005, 1023].map (fun n => classify ⟨400#10, 1020#10, 15#10, 360#10, .full, .drain, .wrap⟩ (BitVec.ofNat 10 n))
      = [.opened, .bOnly, .bOnly] := by decide

/-- Section 2.1: `derive_both`. -/
theorem test_derive_both :
    [deriveBoth 300 700 1023, deriveBoth 200 400 1023, deriveBoth 512 512 1023, deriveBoth 1 1022 1023,
      deriveBoth 100 1023 1023, deriveBoth 0 500 1023, deriveBoth 0 0 1023]
      = [some 264, some 153, some 341, some 0, some 100, some 0, none] := by decide

/-! ### One step of each operation (sections 3 to 6) -/

/-- Section 3.3: the counter-clockwise completion, which must not also count clockwise. -/
theorem test_poll_ccw_only :
    seen (exec (.poll 1023#10) (mk k2d 5 0 false false)) = some (0x00002, 0, -1, false, false) := by decide

/-- Section 6, O9: a press in CW_FINAL makes no lookup and no count. -/
theorem test_poll_pressed_in_chain :
    seen (exec (.poll 0#10) (mk k2d 1 0 false false)) = some (0x00004, 1, 0, true, true) := by decide

/-- Section 6, O1: a negative position in two's complement. -/
theorem test_read_position_negative :
    seen (exec .readPosition (mk (k2 .full .raw .wrap) 0 (-3) false false))
      = some (0x0FFFD, 0, -3, false, false) := by decide

/-- Section 6, O5: refused under DRAIN, and the machine goes on. -/
theorem test_read_position_refused :
    seen (exec .readPosition (mk k2d 0 5 false false)) = some (0x10000, 0, 5, false, false) := by decide

/-- Section 6, O3: the press before the rotation. -/
theorem test_handle_press_first :
    seen (exec .handleEvent (mk k2d 0 2 true false)) = some (0x00003, 0, 2, false, false) := by decide

/-- Section 4: draining from the lowest position does not overflow. -/
theorem test_handle_lowest_position :
    seen (exec .handleEvent (mk k2d 0 (-32768) false false)) = some (0x00002, 0, -32767, false, false) := by decide

/-- Section 6, O7: RESET_POSITION keeps the decoder state and the button flags. -/
theorem test_reset_position_keeps_the_rest :
    seen (exec .resetPosition (mk k2d 3 (-7) true false)) = some (0x00000, 3, 0, true, false) := by decide

/-- Section 4: the accumulator at its limits, WRAP and CLAMP. -/
theorem test_accumulator_limits :
    [posInc .wrap 0x7FFF#16, posInc .clamp 0x7FFF#16, posDec .wrap 0x8000#16, posDec .clamp 0x8000#16,
      posInc .wrap 0xFFFF#16, posDec .clamp 0x0000#16].map BitVec.toInt
      = [-32768, 32767, 32767, -32768, 0, -1] := by decide

/-- Section 6, O12: `rst` wins over a command. -/
theorem test_rst_edge :
    seen (step { mk k2d 3 9 true true with inputs := [⟨true, true, 0x3FF#12⟩] })
      = some (0, 0, 0, false, false) := by decide

/-- R60: the textual form. -/
theorem test_text_of_poll : lineOf (.poll 330#10) = "POLL 330" := by decide

/-! ### Witnesses: values that meet the hypotheses of each statement -/

/-- A state about to see `rst` together with a command, a command, and an idle edge. -/
theorem witness_ClockEdgeRunsDecodedCommand :
    let rstPins : PinInput := ⟨true, true, 0xFFF#12⟩
    let cmdPins : PinInput := ⟨false, true, 0xFFF#12⟩
    { mk k2d 6 1 true true with inputs := [rstPins, idlePins] }.inputs = rstPins :: [idlePins] ∧ rstPins.rst = true
    ∧ { mk k2d 6 1 true true with inputs := [cmdPins] }.inputs = cmdPins :: [] ∧ cmdPins.rst = false
    ∧ cmdPins.cmdValid = true
    ∧ { mk k2d 6 1 true true with inputs := [idlePins] }.inputs = idlePins :: [] ∧ idlePins.rst = false
    ∧ idlePins.cmdValid = false := by decide

theorem witness_RstEdgeReconstructs :
    { mk k2d 6 1 true true with inputs := [⟨true, true, 0#12⟩] }.inputs = ⟨true, true, 0#12⟩ :: []
    ∧ (⟨true, true, 0#12⟩ : PinInput).rst = true := by decide

theorem witness_RstEdgeHoldsResponseWord :
    { mk k2d 0 0 false false with rsp := 3#17, inputs := [⟨true, false, 0#12⟩] }.inputs = ⟨true, false, 0#12⟩ :: []
    ∧ (⟨true, false, 0#12⟩ : PinInput).rst = true := by decide

/-- More edges than the host has planned, the planned ones idle. -/
theorem witness_IdleEdgesChangeNothing :
    ∀ p ∈ { mk k2d 3 1 true false with inputs := [idlePins, ⟨false, false, 7#12⟩] }.inputs.take 5,
      p.rst = false ∧ p.cmdValid = false := by decide

theorem witness_PlacedWordRunsNext :
    decodeTableWord 12 0x3FF = some (.poll 1023#10) ∧ decodeTableWord 16 0xC00 = some .resetPosition := by decide

theorem witness_CommandsRunInIssueOrder :
    let ops : List Instr := [.poll 0#10, .handleEvent]
    let s : State := { State.reset with inputs := commandSchedule ops ++ [idlePins] }
    s.inputs = commandSchedule ops ++ [idlePins]
    ∧ (runOps ops { s with inputs := [idlePins] }).isSome = true := by decide

/-- Each clause at the ends of its range of words. -/
theorem witness_OpFieldSelectsOperation :
    [0x000#12, 0x3FF#12].map (fun w => w.extractLsb' 10 2) = [0b00#2, 0b00#2]
    ∧ [0x400#12, 0x7FF#12].map (fun w => w.extractLsb' 10 2) = [0b01#2, 0b01#2]
    ∧ [0x800#12, 0xBFF#12].map (fun w => w.extractLsb' 10 2) = [0b10#2, 0b10#2]
    ∧ [0xC00#12, 0xFFF#12].map (fun w => w.extractLsb' 10 2) = [0b11#2, 0b11#2] := by decide

theorem witness_SampleFieldIsUnsigned :
    decode 0x3FF#12 = .poll 1023#10 ∧ (1023 : Nat) ≤ adcMax ∧ (0 : Nat) ≤ adcMax := by decide

theorem witness_DecodeEncodeRoundTrip :
    (Instr.poll 1023#10).wf = true ∧ Instr.readPosition.wf = true ∧ Instr.handleEvent.wf = true
    ∧ Instr.resetPosition.wf = true := by decide

theorem witness_LowSamplesArePressed :
    (50#10).toNat ≤ k1.var.toNat ∧ adcMax ≤ { k1 with var := 1023#10 }.var.toNat := by decide

theorem witness_DisjointBandsClassifyNominals : BandsDisjoint k2d := by
  simp only [BandsDisjoint, List.pairwise_cons, List.mem_cons, List.not_mem_nil, or_false, forall_eq_or_imp,
    forall_eq, Apart, pressedBand, windowBand, openBand, k2d, k2]
  simp
  refine ⟨⟨?_, ?_, ?_, ?_⟩, ⟨?_, ?_, ?_⟩, ⟨?_, ?_⟩, ?_⟩ <;> intros <;> omega

theorem witness_DerivationIsParallelResistance :
    ((0 : ℚ) < 300 ∧ (300 : ℚ) < 1023 ∧ (0 : ℚ) < 700 ∧ (700 : ℚ) < 1023)
    ∧ (0 : ℚ) < 1023 ∧ (0 : ℚ) ≤ 0 ∧ (0 : ℚ) ≤ 1023 ∧ (1023 : ℚ) ≤ 1023 := by norm_num

theorem witness_DerivedReadingIsBelowBoth :
    (0 : ℚ) < 1 ∧ (1 : ℚ) < 1023 ∧ (0 : ℚ) < 1022 ∧ (1022 : ℚ) < 1023 := by norm_num

theorem witness_DerivedReadingIsFloor :
    deriveBoth (300#10).toNat (700#10).toNat adcMax = some 264
    ∧ deriveBoth (100#10).toNat (1023#10).toNat adcMax = some 100 := by decide

theorem witness_ConstructedConfigurationHoldsChoices :
    makeCfg 400#10 800#10 15#10 .half .raw .clamp = some (k2 .half .raw .clamp)
    ∧ makeCfg 0#10 0#10 15#10 .full .drain .wrap = none := by decide

theorem witness_NoSymbolSequenceLeavesTheTable :
    (6#4).toNat < stateCount .full ∧ (5#4).toNat < stateCount .half := by decide

theorem witness_TaggedEntriesAreExactly :
    tableRead .full 1#4 0b00#2 = some 0x10#6 ∧ tableRead .full 5#4 0b00#2 = some 0x20#6
    ∧ tableRead .half 2#4 0b11#2 = some 0x13#6 ∧ tableRead .half 4#4 0b00#2 = some 0x10#6
    ∧ tableRead .half 1#4 0b11#2 = some 0x23#6 ∧ tableRead .half 5#4 0b00#2 = some 0x20#6
    ∧ tableRead .full 0#4 0b11#2 = some 0x00#6 := by decide

/-- Both directions, with a step back inside the clockwise chain (section 3.1, F7). -/
theorem witness_PulsePassesItsChainOfStates :
    fsmVisits .full FullState.start.index [0b10#2, 0b11#2, 0b01#2, 0b11#2, 0b01#2] = some [2#4, 3#4, 1#4, 3#4, 1#4]
    ∧ FullState.start.index ∉ [2#4, 3#4, 1#4, 3#4, 1#4]
    ∧ (fsmStep .full FullState.cwFinal.index 0b00#2).toOption = some (FullState.start.index, .cw)
    ∧ fsmVisits .full FullState.start.index [0b01#2, 0b11#2, 0b10#2] = some [4#4, 6#4, 5#4]
    ∧ FullState.start.index ∉ [4#4, 6#4, 5#4]
    ∧ (fsmStep .full FullState.ccwFinal.index 0b00#2).toOption = some (FullState.start.index, .ccw) := by decide

/-- The last sample of the PRESSED band, from an index without a table row. -/
theorem witness_PressedPollMakesNoLookup : classify (mk k2d 15 0 false true).cfg 15#10 = .pressed := by decide

/-- Both clauses: the last PRESSED sample, the first above it, and the highest legal index of each mode. -/
theorem witness_PollMeaning :
    classify (mk k2d 6 0 false false).cfg 15#10 = .pressed
    ∧ symbolOf (classify (mk k2d 6 0 false false).cfg 16#10) = some 0b00#2 ∧ (mk k2d 6 0 false false).Legal
    ∧ symbolOf (classify (mk (k2 .half .raw .clamp) 5 0 false false).cfg 360#10) = some 0b11#2
    ∧ (mk (k2 .half .raw .clamp) 5 0 false false).Legal := by decide

/-- The lowest index without a row, in each mode. -/
theorem witness_PollStopsOnlyOffTheTable :
    ¬ (mk k2d 7 0 false false).Legal ∧ ¬ (mk (k2 .half .drain .wrap) 6 0 false false).Legal
    ∧ classify k2d 1023#10 ≠ .pressed
    ∧ nextOf (exec (.poll 1023#10) (mk k2d 7 0 false false)) = none
    ∧ nextOf (exec (.poll 1023#10) (mk (k2 .half .drain .wrap) 6 0 false false)) = none := by decide

theorem witness_ButtonFlagsAfterPoll :
    (nextOf (exec (.poll 15#10) (mk k2d 0 0 false false))).isSome = true ∧ classify k2d 15#10 = .pressed
    ∧ (nextOf (exec (.poll 15#10) (mk k2d 0 0 false true))).isSome = true
    ∧ (nextOf (exec (.poll 16#10) (mk k2d 0 0 true true))).isSome = true ∧ classify k2d 16#10 ≠ .pressed := by decide

theorem witness_PollCountsItsOnePulse :
    (nextOf (exec (.poll 0#10) (mk k2d 1 0 false false))).map State.rsp = some 0x00004#17
    ∧ (nextOf (exec (.poll 400#10) (mk k2d 1 0 false false))).map State.rsp = some 0x00000#17
    ∧ (nextOf (exec (.poll 1023#10) (mk k2d 1 0 false false))).map State.rsp = some 0x00001#17
    ∧ (nextOf (exec (.poll 1023#10) (mk k2d 5 0 false false))).map State.rsp = some 0x00002#17 := by decide

theorem witness_DecoderReadsOnlySt :
    (mk k2d 1 0 false false).cfg = (mk k2d 1 9 true true).cfg ∧ (mk k2d 1 0 false false).st = (mk k2d 1 9 true true).st
    ∧ (nextOf (exec (.poll 1023#10) (mk k2d 1 0 false false))).isSome = true := by decide

theorem witness_ReadPositionResponds :
    (mk (k2 .full .raw .wrap) 0 (-32768) false false).cfg.contract = .raw
    ∧ (mk k2d 0 5 false false).cfg.contract = .drain := by decide

/-- Each clause at the ends of its range of positions. -/
theorem witness_HandleEventDelivers :
    (mk k2d 0 2 true false).cfg.contract = .drain ∧ (mk k2d 0 2 true false).btnPending = true
    ∧ (mk k2d 0 1 false false).btnPending = false
    ∧ 0 < (mk k2d 0 1 false false).pos.toInt ∧ 0 < (mk k2d 0 32767 false false).pos.toInt
    ∧ (mk k2d 0 (-1) false false).pos.toInt < 0 ∧ (mk k2d 0 (-32768) false false).pos.toInt < 0
    ∧ (mk k2d 0 0 false false).pos.toInt = 0
    ∧ (mk (k2 .full .raw .wrap) 0 5 true false).cfg.contract = .raw := by decide

theorem witness_UnofferedOperationsAreRefused :
    offered (mk k2d 0 5 false false).cfg.contract .readPosition = false
    ∧ offered (mk (k2 .full .raw .wrap) 0 5 true false).cfg.contract .handleEvent = false
    ∧ offered (mk k2d 0 5 false false).cfg.contract .handleEvent = true
    ∧ (nextOf (exec .handleEvent (mk k2d 0 5 false false))).isSome = true := by decide

theorem witness_RegisterWriters :
    (nextOf (exec (.poll 0#10) (mk k2d 1 5 true false))).isSome = true ∧ isPoll (.poll 0#10) = true
    ∧ (mk k2d 1 5 true false).btnPending = true
    ∧ (nextOf (exec .readPosition (mk k2d 1 5 true false))).isSome = true
    ∧ (nextOf (exec .resetPosition (mk k2d 1 5 true false))).isSome = true
    ∧ (nextOf (exec .handleEvent (mk k2d 1 5 false false))).isSome = true
    ∧ (mk k2d 1 5 false false).btnPending = false ∧ isPoll .handleEvent = false := by decide

theorem witness_ConfigurationIsImmutable :
    (nextOf (step { mk k2d 1 5 true false with inputs := [⟨false, true, 0x3FF#12⟩] })).isSome = true
    ∧ (nextOf (step (mk k2d 1 5 true false))).isSome = true := by decide

theorem witness_EveryEdgeKeepsLegalState :
    (mk k2d 6 32767 false false).Legal
    ∧ (nextOf (step { mk k2d 6 32767 false false with inputs := [⟨false, true, 0x168#12⟩] })).isSome = true
    ∧ (mk (k2 .half .raw .wrap) 5 (-32768) false false).Legal
    ∧ (nextOf (step { mk (k2 .half .raw .wrap) 5 (-32768) false false with inputs := [⟨false, true, 0x3FF#12⟩] })).isSome
      = true := by decide

theorem witness_NothingStopsALegalState :
    (mk k2d 6 0 false false).Legal ∧ (mk (k2 .half .raw .clamp) 5 0 false false).Legal := by decide

/-- A pulse counted in, one counted out, across the wrap. -/
theorem witness_RotationIsConserved :
    (mk k2d 1 32767 false false).cfg.posOverflow = .wrap
    ∧ Instr.resetPosition ∉ [Instr.poll 1023#10, .handleEvent]
    ∧ said [.poll 1023#10, .handleEvent] (mk k2d 1 32767 false false) = some [0x00001, 0x00002] := by decide

theorem witness_DrainingEmptiesTheCounter :
    (mk k2d 3 (-2) false true).cfg.contract = .drain ∧ (mk k2d 3 (-2) false true).btnPending = false
    ∧ (mk k2d 0 (-32768) false false).btnPending = false ∧ (mk k2d 0 0 false false).btnPending = false := by decide

theorem witness_HeldPressIsDeliveredOnce :
    (mk k2d 0 1 false false).cfg.contract = .drain ∧ (mk k2d 0 1 false false).btnPending = false
    ∧ (mk k2d 0 1 false false).btnLatched = false
    ∧ ∀ i ∈ [Instr.handleEvent, .poll 0#10, .handleEvent, .poll 15#10],
      i = .handleEvent ∨ ∃ x, i = .poll x ∧ classify (mk k2d 0 1 false false).cfg x = .pressed := by
  refine ⟨by decide, by decide, by decide, ?_⟩
  simp only [List.mem_cons, List.not_mem_nil, or_false, forall_eq_or_imp, forall_eq, true_or, true_and]
  exact ⟨.inr ⟨0#10, rfl, by decide⟩, .inr ⟨15#10, rfl, by decide⟩⟩

theorem witness_FourButtonStatesAreReached :
    k2d.contract = .drain ∧ k2d.var.toNat < adcMax ∧ { k2d with var := 1022#10 }.var.toNat < adcMax := by decide

theorem witness_RawContractHidesButtonFlags :
    (mk (k2 .full .raw .wrap) 0 0 true false).cfg.contract = .raw := by decide

/-- Each clause: `q` positive, negative, zero and at the wrap, with and without a press pending. -/
theorem witness_PulseIsVisibleToTheNextRead :
    (mk (k2 .full .raw .wrap) 1 0 false false).cfg.contract = .raw
    ∧ (nextOf (exec (.poll 1023#10) (mk (k2 .full .raw .wrap) 1 0 false false))).map State.rsp = some 0x00001#17
    ∧ (nextOf (exec (.poll 1023#10) (mk (k2 .full .raw .wrap) 5 0 false false))).map State.rsp = some 0x00002#17
    ∧ (mk k2d 1 0 false false).cfg.contract = .drain ∧ (mk k2d 1 0 false false).btnPending = false
    ∧ (nextOf (exec (.poll 1023#10) (mk k2d 1 0 false false))).map State.rsp = some 0x00001#17
    ∧ 0 < (posInc .wrap (mk k2d 1 0 false false).pos).toInt
    ∧ (nextOf (exec (.poll 1023#10) (mk k2d 1 32767 false false))).map State.rsp = some 0x00001#17
    ∧ (posInc .wrap (mk k2d 1 32767 false false).pos).toInt < 0
    ∧ (nextOf (exec (.poll 1023#10) (mk k2d 5 1 false false))).map State.rsp = some 0x00002#17
    ∧ (posDec .wrap (mk k2d 5 1 false false).pos).toInt = 0
    ∧ (nextOf (exec (.poll 1023#10) (mk k2d 5 1 true false))).map State.rsp = some 0x00002#17
    ∧ (mk k2d 5 1 true false).btnPending = true := by decide

/-- Samples of each class under K2, from section 2.2. -/
theorem witness_FullStepDetentCountsOne :
    (mk k2d 0 0 false false).cfg.mode = .full ∧ (mk k2d 0 0 false false).st = FullState.start.index
    ∧ classify k2d 1023#10 = .opened ∧ classify k2d 400#10 = .aOnly ∧ classify k2d 360#10 = .both
    ∧ classify k2d 800#10 = .bOnly ∧ classify k2d 816#10 = .opened := by decide

theorem witness_RepeatedSymbolsAndPressesCountOnce :
    (mk k2d 0 0 false false).cfg.mode = .full ∧ (mk k2d 0 0 false false).st = FullState.start.index
    ∧ (∀ x ∈ [0#10, 400#10, 385#10], classify k2d x = .aOnly ∨ classify k2d x = .pressed)
    ∧ (∃ x ∈ [0#10, 400#10, 385#10], classify k2d x = .aOnly)
    ∧ (∀ x ∈ [360#10, 15#10], classify k2d x = .both ∨ classify k2d x = .pressed)
    ∧ (∃ x ∈ [360#10, 15#10], classify k2d x = .both)
    ∧ (∀ x ∈ [800#10], classify k2d x = .bOnly ∨ classify k2d x = .pressed)
    ∧ (∃ x ∈ [800#10], classify k2d x = .bOnly) ∧ classify k2d 1023#10 = .opened := by decide

/-- Each clause from both of its states, with samples of both chattering classes. -/
theorem witness_AdjacentChatterKeepsTheChain :
    (mk k2d 3 0 false false).cfg.mode = .full
    ∧ classify k2d 400#10 = .aOnly ∧ classify k2d 360#10 = .both ∧ classify k2d 800#10 = .bOnly
    ∧ classify k2d 1023#10 = .opened
    ∧ (mk k2d 2 0 false false).st = FullState.cwBegin.index
    ∧ (mk k2d 3 0 false false).st = FullState.cwNext.index ∧ (mk k2d 1 0 false false).st = FullState.cwFinal.index
    ∧ (mk k2d 4 0 false false).st = FullState.ccwBegin.index
    ∧ (mk k2d 6 0 false false).st = FullState.ccwNext.index ∧ (mk k2d 5 0 false false).st = FullState.ccwFinal.index
    ∧ (∀ x ∈ [800#10, 360#10, 785#10], classify k2d x = .both ∨ classify k2d x = .bOnly)
    ∧ (∀ x ∈ [800#10, 360#10, 785#10], classify k2d x = .bOnly ∨ classify k2d x = .both)
    ∧ (∀ x ∈ [400#10, 360#10], classify k2d x = .both ∨ classify k2d x = .aOnly)
    ∧ (∀ x ∈ [400#10, 360#10], classify k2d x = .aOnly ∨ classify k2d x = .both) := by decide

/-- A whole chain in each direction, so that both clauses have a pulse to speak of. -/
theorem witness_PulseNeedsItsWholeChain :
    (mk k2d 0 0 false false).cfg.mode = .full ∧ (mk k2d 0 0 false false).st = FullState.start.index
    ∧ said (polls [400#10, 360#10, 800#10] ++ [.poll 1023#10]) (mk k2d 0 0 false false) = some [0, 0, 0, 1]
    ∧ said (polls [800#10, 360#10, 400#10] ++ [.poll 1023#10]) (mk k2d 0 0 false false) = some [0, 0, 0, 2] := by
  decide

/-- First clause: the symbols of section 3.1, F5, F13 and F14, which hold a whole chain as a subsequence, and a
start inside a chain. Second clause: the symbols `01 10 11 00`, neither chain whole (R85 (f)). -/
theorem witness_IncompleteChainKeepsPosition :
    (mk k2d 0 0 false false).cfg.mode = .full ∧ (mk k2d 0 0 false false).Legal
    ∧ completesNoChain [400#10, 360#10, 800#10, 400#10, 1023#10] (mk k2d 0 0 false false) = true
    ∧ completesNoChain [400#10, 360#10, 800#10, 360#10, 400#10, 1023#10] (mk k2d 0 0 false false) = true
    ∧ completesNoChain [800#10, 360#10, 400#10, 360#10, 800#10, 1023#10] (mk k2d 0 0 false false) = true
    ∧ (mk k2d 6 5 false false).Legal ∧ completesNoChain [400#10, 0#10, 800#10] (mk k2d 6 5 false false) = true
    ∧ completesNoChain [1023#10] (mk k2d 1 0 false false) = false
    ∧ (mk k2d 0 0 false false).st = FullState.start.index
    ∧ ¬ [SampleClass.aOnly, .both, .bOnly, .opened].Sublist ([800#10, 400#10, 360#10, 1023#10].map (classify k2d))
    ∧ ¬ [SampleClass.bOnly, .both, .aOnly, .opened].Sublist ([800#10, 400#10, 360#10, 1023#10].map (classify k2d)) := by
  decide

theorem witness_HalfStepDetentCountsTwo :
    (mk (k2 .half .raw .wrap) 0 0 false false).cfg.mode = .half
    ∧ (mk (k2 .half .raw .wrap) 0 0 false false).st = HalfState.start.index
    ∧ (mk (k2 .half .raw .wrap) 3 0 false false).st = HalfState.startM.index
    ∧ classify (k2 .half .raw .wrap) 400#10 = .aOnly ∧ classify (k2 .half .raw .wrap) 360#10 = .both
    ∧ classify (k2 .half .raw .wrap) 800#10 = .bOnly ∧ classify (k2 .half .raw .wrap) 1023#10 = .opened := by decide

/-- The first and last state of a full-step chain and a half-step chain, with each contract and with a press
pending. -/
theorem witness_ResetInsideChainCountsFromZero :
    chainRest (mk k2d 2 7 false false).cfg.mode (mk k2d 2 7 false false).st = some ([.both, .bOnly, .opened], .cw)
    ∧ [360#10, 800#10, 1023#10].map (classify k2d) = [.both, .bOnly, .opened]
    ∧ chainRest (mk k2d 5 7 true false).cfg.mode (mk k2d 5 7 true false).st = some ([.opened], .ccw)
    ∧ [1023#10].map (classify k2d) = [.opened]
    ∧ chainRest (mk (k2 .half .raw .wrap) 4 1 false false).cfg.mode (mk (k2 .half .raw .wrap) 4 1 false false).st
      = some ([.opened], .cw)
    ∧ (mk k2d 2 7 false false).cfg.contract = .drain ∧ (mk k2d 2 7 false false).btnPending = false
    ∧ (mk k2d 5 7 true false).btnPending = true
    ∧ (mk (k2 .half .raw .wrap) 4 1 false false).cfg.contract = .raw := by decide

theorem witness_PseudoOperationsMeanTheirNames :
    NominalsClassify (mk k2d 0 0 false false).cfg ∧ (mk k2d 0 0 false false).cfg.mode = .full
    ∧ (mk k2d 0 0 false false).st = FullState.start.index := by
  unfold NominalsClassify
  decide

end Sys2Proof.Tests
end

section
/-! PROOFS. Construction and reset (10_state.md R23): the register values of a freshly constructed instance. -/

namespace Sys2Proof.Machine

@[simp] theorem FullState.index_start : FullState.start.index = 0#4 := rfl
@[simp] theorem HalfState.index_start : HalfState.start.index = 0#4 := rfl

/-- Reset is construction with the configuration of log 2, so what holds of every constructed state holds of it. -/
theorem State.reset_eq_construct : State.reset = State.construct resetCfg := rfl

/-- Settles O1: the values of a constructed instance do not depend on its configuration, START of both modes
has index 0, and the reset state is a constructed one. -/
theorem constructionGivesResetValues : Obligations.ConstructionGivesResetValues := by
  unfold Obligations.ConstructionGivesResetValues
  constructor
  · intro c
    simp
  · simp [State.reset_eq_construct]

end Sys2Proof.Machine
end

section
/-! PROOFS. Command words (30_encoding.md R46, R47, R48): the two fields of a word as numbers, and the decoder by
the value of `op`. -/

namespace Sys2Proof

/-- The operation code is the word above its ten low bits (R46). -/
theorem opField_toNat (w : Cmd) : (opField w).toNat = w.toNat / 1024 := by
  have hw : w.toNat < 4096 := w.isLt
  rw [opField, BitVec.extractLsb'_toNat, Nat.shiftRight_eq_div_pow]
  omega

/-- The sample field is the ten low bits, neither extended, scaled nor shifted (R48). -/
theorem sampleField_toNat (w : Cmd) : (sampleField w).toNat = w.toNat % 1024 := by
  rw [sampleField, BitVec.extractLsb'_toNat, Nat.shiftRight_zero]

/-- Every sample is in the range of the ADC (R48). -/
theorem sample_toNat_le_adcMax (x : Sample) : x.toNat ≤ adcMax := Nat.le_of_lt_succ x.isLt

theorem decode_of_opPoll {w : Cmd} (h : opField w = opPoll) : decode w = .poll (sampleField w) := by
  simp [decode, h]

theorem decode_of_opReadPosition {w : Cmd} (h : opField w = opReadPosition) : decode w = .readPosition := by
  simp [decode, h, opPoll, opReadPosition]

theorem decode_of_opHandleEvent {w : Cmd} (h : opField w = opHandleEvent) : decode w = .handleEvent := by
  simp [decode, h, opPoll, opReadPosition, opHandleEvent]

theorem decode_of_opResetPosition {w : Cmd} (h : opField w = opResetPosition) : decode w = .resetPosition := by
  simp [decode, h, opPoll, opReadPosition, opHandleEvent, opResetPosition]

/-- POLL is decoded from its own operation code only, with the word's sample field (R47, R48). -/
theorem decode_eq_poll_iff (w : Cmd) (x : Sample) :
    decode w = .poll x ↔ opField w = opPoll ∧ sampleField w = x := by
  constructor
  · intro h
    by_cases hop : opField w = opPoll
    · rw [decode_of_opPoll hop] at h
      exact ⟨hop, Instr.poll.inj h⟩
    · rw [decode, if_neg hop] at h
      split_ifs at h
  · rintro ⟨hop, rfl⟩
    exact decode_of_opPoll hop

/-- The command word numbered like a sample is the POLL of that sample: its operation code is 0. -/
theorem decode_ofNat_sample (x : Sample) : decode (BitVec.ofNat 12 x.toNat) = .poll x := by
  have hx : x.toNat < 1024 := x.isLt
  have hw : (BitVec.ofNat 12 x.toNat).toNat = x.toNat := by
    rw [BitVec.toNat_ofNat, Nat.mod_eq_of_lt (by omega)]
  rw [decode_eq_poll_iff]
  constructor
  · apply BitVec.eq_of_toNat_eq
    rw [opField_toNat, hw]
    exact Nat.div_eq_of_lt hx
  · apply BitVec.eq_of_toNat_eq
    rw [sampleField_toNat, hw, Nat.mod_eq_of_lt hx]

/-- Settles O9: one equation of the decoder per value of `op`. -/
theorem opFieldSelectsOperation : Obligations.OpFieldSelectsOperation := by
  unfold Obligations.OpFieldSelectsOperation
  intro w
  exact ⟨decode_of_opPoll, decode_of_opReadPosition, decode_of_opHandleEvent, decode_of_opResetPosition⟩

/-- Settles O10: a decoded sample is the word's sample field, and a number up to ADC_MAX is the number of the
sample whose POLL it encodes. -/
theorem sampleFieldIsUnsigned : Obligations.SampleFieldIsUnsigned := by
  unfold Obligations.SampleFieldIsUnsigned
  constructor
  · intro w x h
    obtain ⟨-, rfl⟩ := (decode_eq_poll_iff w x).1 h
    exact ⟨sampleField_toNat w, sample_toNat_le_adcMax _⟩
  · intro n hn
    have hx : (BitVec.ofNat 10 n).toNat = n := by
      rw [BitVec.toNat_ofNat]
      exact Nat.mod_eq_of_lt (Nat.lt_succ_of_le hn)
    refine ⟨BitVec.ofNat 10 n, ?_, hx⟩
    simpa only [hx] using decode_ofNat_sample (BitVec.ofNat 10 n)

end Sys2Proof
end

section
/-! PROOFS. The classifier (40_classifier.md R66, R67, R70) and the derived reading of both contacts closed (R71). -/

namespace Sys2Proof.Machine

/-- The window as its two bounds, neither of which wraps (R67, R68). -/
theorem within_eq_true_iff (s x v : Sample) :
    within s x v = true ↔ (x.toNat : Int) - v.toNat ≤ s.toNat ∧ (s.toNat : Int) ≤ x.toNat + v.toNat :=
  decide_eq_true_iff

/-- The window as a distance: deviations up to `V`, on either side (R67). -/
theorem within_eq_true_iff_abs (s x v : Sample) :
    within s x v = true ↔ |(s.toNat : Int) - x.toNat| ≤ v.toNat := by
  rw [within_eq_true_iff, abs_sub_le_iff]
  omega

section
variable {c : Cfg} {s : Sample}

theorem classify_of_le_var (h : s.toNat ≤ c.var.toNat) : classify c s = .pressed :=
  if_pos h

theorem classify_of_within_eAB (h : c.var.toNat < s.toNat) (hAB : within s c.eAB c.var = true) :
    classify c s = .both := by
  rw [classify, if_neg h.not_ge, if_pos hAB]

theorem classify_of_within_eA (h : c.var.toNat < s.toNat) (hAB : within s c.eAB c.var = false)
    (hA : within s c.eA c.var = true) : classify c s = .aOnly := by
  rw [classify, if_neg h.not_ge, hAB, if_neg Bool.false_ne_true, if_pos hA]

theorem classify_of_within_eB (h : c.var.toNat < s.toNat) (hAB : within s c.eAB c.var = false)
    (hA : within s c.eA c.var = false) (hB : within s c.eB c.var = true) : classify c s = .bOnly := by
  rw [classify, if_neg h.not_ge, hAB, if_neg Bool.false_ne_true, hA, if_neg Bool.false_ne_true, if_pos hB]

theorem classify_of_outside (h : c.var.toNat < s.toNat) (hAB : within s c.eAB c.var = false)
    (hA : within s c.eA c.var = false) (hB : within s c.eB c.var = false) : classify c s = .opened := by
  rw [classify, if_neg h.not_ge, hAB, if_neg Bool.false_ne_true, hA, if_neg Bool.false_ne_true, hB,
    if_neg Bool.false_ne_true]

end

/-- The closed form has no value exactly where its denominator is 0 (R71). -/
theorem deriveBothExact_eq_none_iff (a b m : ℚ) :
    deriveBothExact a b m = none ↔ m * (a + b) - a * b = 0 := by
  simp [deriveBothExact]

theorem deriveBothExact_of_ne_zero {a b m : ℚ} (h : m * (a + b) - a * b ≠ 0) :
    deriveBothExact a b m = some (m * a * b / (m * (a + b) - a * b)) :=
  if_neg h

/-- For readings from 0 to full scale the denominator is a sum of two nonnegative terms, `m * b` and
`a * (m - b)`; so it is 0 only where both are (R71). -/
theorem deriveBothExact_denominator_eq_zero_iff {a b m : ℚ} (hm : 0 < m) (ha : 0 ≤ a) (hb : 0 ≤ b) (hbm : b ≤ m) :
    m * (a + b) - a * b = 0 ↔ a = 0 ∧ b = 0 := by
  have hsplit : m * (a + b) - a * b = m * b + a * (m - b) := by ring
  rw [hsplit, add_eq_zero_iff_of_nonneg (mul_nonneg hm.le hb) (mul_nonneg ha (sub_nonneg.2 hbm)),
    mul_eq_zero_iff_left hm.ne']
  constructor
  · rintro ⟨rfl, h⟩
    rw [sub_zero] at h
    exact ⟨(mul_eq_zero_iff_right hm.ne').1 h, rfl⟩
  · rintro ⟨rfl, rfl⟩
    simp

/-- The branch resistances put together in parallel, `Rab = Ra * Rb / (Ra + Rb)`, with the factor `(m-a) * (m-b)`
cancelled (R71). -/
theorem parallelResistance_eq {a b m : ℚ} (ham : a < m) (hbm : b < m) :
    (a / (m - a)) * (b / (m - b)) / (a / (m - a) + b / (m - b)) = a * b / (a * (m - b) + b * (m - a)) := by
  have ha : m - a ≠ 0 := (sub_pos.2 ham).ne'
  have hb : m - b ≠ 0 := (sub_pos.2 hbm).ne'
  rw [div_mul_div_comm, div_add_div _ _ ha hb, div_div_div_cancel_right₀ (mul_ne_zero ha hb), mul_comm (m - a) b]

/-- Settles O15: each form of the window is a lemma about `within`. -/
theorem windowIsClosed : Obligations.WindowIsClosed := by
  unfold Obligations.WindowIsClosed
  intro s x v
  exact ⟨within_eq_true_iff s x v, within_eq_true_iff_abs s x v⟩

/-- Settles O16: the sample is at or below the variance or above it, then inside or outside each window in turn;
in each case the class is known, and so is which of the five conditions holds. -/
theorem classifierPriority : Obligations.ClassifierPriority := by
  unfold Obligations.ClassifierPriority
  intro c s
  rcases le_or_gt s.toNat c.var.toNat with h | h
  · simp [classify_of_le_var h, h, h.not_gt]
  cases hAB : within s c.eAB c.var with
  | true => simp [classify_of_within_eAB h hAB, h]
  | false =>
    cases hA : within s c.eA c.var with
    | true => simp [classify_of_within_eA h hAB hA, h]
    | false =>
      cases hB : within s c.eB c.var with
      | true => simp [classify_of_within_eB h hAB hA hB, h]
      | false => simp [classify_of_outside h hAB hA hB, h]

/-- Settles O20: the five rows of R70's map. -/
theorem symbolOfEachClass : Obligations.SymbolOfEachClass :=
  ⟨rfl, rfl, rfl, rfl, rfl⟩

/-- Settles O21: with the parallel resistance as one fraction `a*b / d`, the reading `m*R / (1 + R)` is
`m*a*b / (d + a*b)`, whose denominator is the closed form's. -/
theorem derivationIsParallelResistance : Obligations.DerivationIsParallelResistance := by
  unfold Obligations.DerivationIsParallelResistance
  constructor
  · intro a b m ha ham hb hbm
    have hd : 0 < a * (m - b) + b * (m - a) :=
      add_pos (mul_pos ha (sub_pos.2 hbm)) (mul_pos hb (sub_pos.2 ham))
    have hden : m * (a + b) - a * b = (a * (m - b) + b * (m - a)) + a * b := by ring
    have hne : m * (a + b) - a * b ≠ 0 := hden ▸ (add_pos hd (mul_pos ha hb)).ne'
    rw [deriveBothExact_of_ne_zero hne, parallelResistance_eq ham hbm, one_add_div hd.ne', ← mul_div_assoc,
      div_div_div_cancel_right₀ hd.ne', hden, mul_assoc]
  · intro a b m hm ha _ hb hbm
    rw [deriveBothExact_eq_none_iff, deriveBothExact_denominator_eq_zero_iff hm ha hb hbm]

end Sys2Proof.Machine
end

section
/-! PROOFS. The two transition tables (41_quadrature.md R82, R84, R87): what stands in a table, what a lookup inside
it answers, and the walks over it. A PRESSED poll, which makes no lookup (R91). -/

namespace Sys2Proof.Machine

/-- A table has one word per state and symbol (R31, R82). -/
theorem length_tableOf (m : Mode) : (tableOf m).length = 4 * stateCount m := by
  cases m <;> rfl

/-- Closure, word by word: every entry names a state of its own table (R82). -/
theorem entryIndex_lt_stateCount {m : Mode} {e : Entry} (h : e ∈ tableOf m) :
    (entryIndex e).toNat < stateCount m := by
  revert h e
  cases m <;> decide

/-- No word of a table carries the tag `11` (R57 (d)). -/
theorem entryTag_ne_both {m : Mode} {e : Entry} (h : e ∈ tableOf m) : entryTag e ≠ 0b11#2 := by
  revert h e
  cases m <;> decide

/-- What a lookup reads stands in the table. -/
theorem mem_tableOf_of_tableRead {m : Mode} {s : StIndex} {y : QuadSymbol} {e : Entry}
    (h : tableRead m s y = some e) : e ∈ tableOf m :=
  List.mem_of_getElem? h

/-- Totality: the address `4*s + y` of a legal index is inside the table (R82). -/
theorem exists_tableRead_of_lt {m : Mode} {s : StIndex} (hs : s.toNat < stateCount m) (y : QuadSymbol) :
    ∃ e, tableRead m s y = some e := by
  have haddr : 4 * s.toNat + y.toNat < (tableOf m).length := by
    have hy : y.toNat < 4 := y.isLt
    rw [length_tableOf]
    omega
  exact ⟨_, List.getElem?_eq_getElem haddr⟩

/-- Every tag but `11` carries a direction (R54). -/
theorem exists_dirOfTag_of_ne_both {t : BitVec 2} (h : t ≠ 0b11#2) : ∃ d, dirOfTag t = some d := by
  rw [← Option.isSome_iff_exists]
  revert h t
  decide

/-- From a legal index one lookup answers, at a legal index (R80, R82). -/
theorem exists_fsmStep_of_lt {m : Mode} {s : StIndex} (hs : s.toNat < stateCount m) (y : QuadSymbol) :
    ∃ r, fsmStep m s y = .ok r ∧ r.1.toNat < stateCount m := by
  obtain ⟨e, he⟩ := exists_tableRead_of_lt hs y
  have hmem := mem_tableOf_of_tableRead he
  obtain ⟨d, hd⟩ := exists_dirOfTag_of_ne_both (entryTag_ne_both hmem)
  exact ⟨(entryIndex e, d), (fsmStep_ok_iff ..).2 ⟨e, he, hd, rfl⟩, entryIndex_lt_stateCount hmem⟩

@[simp] theorem fsmRun_nil (m : Mode) (s : StIndex) : fsmRun m s [] = .ok (s, []) := rfl

/-- A walk whose first lookup and whose rest answer. -/
theorem fsmRun_cons_of_ok {m : Mode} {s : StIndex} {y : QuadSymbol} {ys : List QuadSymbol} {r : StIndex × Dir}
    {q : StIndex × List Dir} (hr : fsmStep m s y = .ok r) (hq : fsmRun m r.1 ys = .ok q) :
    fsmRun m s (y :: ys) = .ok (q.1, r.2 :: q.2) := by
  simp [fsmRun, hr, hq]

/-- From a legal index every walk answers, at a legal index, with one direction for each symbol (R82). -/
theorem exists_fsmRun_of_lt {m : Mode} {s : StIndex} (hs : s.toNat < stateCount m) (ys : List QuadSymbol) :
    ∃ q, fsmRun m s ys = .ok q ∧ q.1.toNat < stateCount m ∧ q.2.length = ys.length := by
  induction ys generalizing s with
  | nil => exact ⟨(s, []), fsmRun_nil m s, hs, rfl⟩
  | cons y ys ih =>
    obtain ⟨r, hr, hrlt⟩ := exists_fsmStep_of_lt hs y
    obtain ⟨q, hq, hqlt, hlen⟩ := ih hrlt
    exact ⟨_, fsmRun_cons_of_ok hr hq, hqlt, congrArg Nat.succ hlen⟩

/-- Settles O26: a lookup at a legal index reads a word of the table, whose index is legal again; so every walk
goes on, by induction on its symbols. -/
theorem noSymbolSequenceLeavesTheTable : Obligations.NoSymbolSequenceLeavesTheTable := by
  unfold Obligations.NoSymbolSequenceLeavesTheTable
  intro m s hs
  constructor
  · intro y
    obtain ⟨e, he⟩ := exists_tableRead_of_lt hs y
    exact ⟨e, he, entryIndex_lt_stateCount (mem_tableOf_of_tableRead he)⟩
  · exact exists_fsmRun_of_lt hs

/-- Settles O25: the words are the decimal data of R84 and R87, and a lookup is defined as the read of the mode's
table at the flat address. -/
theorem tablesAreTheSpecsData : Obligations.TablesAreTheSpecsData := by
  unfold Obligations.TablesAreTheSpecsData
  refine ⟨rfl, rfl, ?_⟩
  intro m s y
  cases m <;> rfl

/-- The button flags of a PRESSED poll in one form: pending unless the hold has been seen already, and latched
(R111). -/
theorem btnPoll_pressed (p l : Bool) : btnPoll .pressed p l = (p || !l, true) := by
  cases l
  · simp
  · simp

/-- Settles O30: such a poll only updates the button flags and responds `pressed_level = 1`, `dir = NONE`. -/
theorem pressedPollMakesNoLookup : Obligations.PressedPollMakesNoLookup := by
  unfold Obligations.PressedPollMakesNoLookup
  intro s x hx
  have hword : (Response.polled true .none).word = 0x00004#17 := by decide
  calc exec (.poll x) s
      = execPoll x s := rfl
    _ = .next (pollPressed s) := execPoll_of_pressed x s hx
    _ = _ := by simp [pollPressed, btnPoll_pressed, State.setButtons, State.respond, hword]

end Sys2Proof.Machine
end

section
/-! PROOFS. The operations (42_operations.md): the word of each response, the accumulator, each operation's whole next
state by its case, and edges without a command. -/

namespace Sys2Proof.Machine

/-! ### Response words (30_encoding.md R49, R50, R51) -/

/-- `rsp[16]` of a response word is its refusal bit (R49). -/
theorem Response.extract_refused_word (r : Response) : r.word.extractLsb' 16 1 = BitVec.ofBool r.isRefused :=
  BitVec.extractLsb'_append_eq_left

/-- A POLL that is not PRESSED responds the direction code alone (R50). -/
theorem Response.word_polled_released (d : Dir) : (Response.polled false d).word = 0#15 ++ d.code := by
  cases d <;> rfl

/-! ### The accumulator (R108 (b), R110) -/

/-- Counting up is exact below the upper limit; at the limit the policy decides (R110). -/
theorem posInc_toInt (o : Overflow) (p : Pos) :
    (posInc o p).toInt = if p.toInt = 32767 then (narrowPos o 32768).toInt else p.toInt + 1 := by
  obtain ⟨hlo, hhi⟩ := pos_range p
  split_ifs with h
  · rw [posInc, h]
    rfl
  · exact narrowPos_toInt o _ (by omega) (by omega)

/-- Counting down is exact above the lower limit; at the limit the policy decides (R110). -/
theorem posDec_toInt (o : Overflow) (p : Pos) :
    (posDec o p).toInt = if p.toInt = -32768 then (narrowPos o (-32769)).toInt else p.toInt - 1 := by
  obtain ⟨hlo, hhi⟩ := pos_range p
  split_ifs with h
  · rw [posDec, h]
    rfl
  · exact narrowPos_toInt o _ (by omega) (by omega)

/-- Settles O33: inside the range both policies are exact, and at each limit each policy narrows one known
result. -/
theorem accumulatorWrapsOrClamps : Obligations.AccumulatorWrapsOrClamps := by
  unfold Obligations.AccumulatorWrapsOrClamps
  intro p
  have hWrapUp : (narrowPos .wrap 32768).toInt = -32768 := by decide
  have hWrapDown : (narrowPos .wrap (-32769)).toInt = 32767 := by decide
  have hClampUp : (narrowPos .clamp 32768).toInt = 32767 := by decide
  have hClampDown : (narrowPos .clamp (-32769)).toInt = -32768 := by decide
  simp only [posInc_toInt, posDec_toInt, hWrapUp, hWrapDown, hClampUp, hClampDown, and_self]

/-- The three-way action on a direction, by the tag that carries it (R54, R89). -/
theorem countDir_eq_ite_code (o : Overflow) (d : Dir) (p : Pos) :
    countDir o d p = if d.code = 0b01#2 then posInc o p else if d.code = 0b10#2 then posDec o p else p := by
  cases d <;> rfl

/-- Draining a clockwise count never overflows (R108 (b)). -/
theorem towardZero_toInt_of_pos {p : Pos} (h : 0 < p.toInt) : (towardZero p).toInt = p.toInt - 1 := by
  obtain ⟨-, hhi⟩ := pos_range p
  rw [towardZero, if_pos h]
  exact narrowPos_toInt .wrap _ (by omega) (by omega)

/-- Draining a counter-clockwise count never overflows (R108 (b)). -/
theorem towardZero_toInt_of_neg {p : Pos} (h : p.toInt < 0) : (towardZero p).toInt = p.toInt + 1 := by
  obtain ⟨hlo, -⟩ := pos_range p
  rw [towardZero, if_neg h.not_gt, if_pos h]
  exact narrowPos_toInt .wrap _ (by omega) (by omega)

/-! ### POLL (R106, R111) -/

@[simp] theorem pollPressed_btnPending (s : State) :
    (pollPressed s).btnPending = (btnPoll .pressed s.btnPending s.btnLatched).1 := rfl
@[simp] theorem pollPressed_btnLatched (s : State) :
    (pollPressed s).btnLatched = (btnPoll .pressed s.btnPending s.btnLatched).2 := rfl
@[simp] theorem pollPressed_rsp (s : State) : (pollPressed s).rsp = (Response.polled true .none).word := rfl

section
variable (c : SampleClass) (r : StIndex × Dir) (s : State)

@[simp] theorem pollMoved_btnPending :
    (pollMoved c r s).btnPending = (btnPoll c s.btnPending s.btnLatched).1 := rfl
@[simp] theorem pollMoved_btnLatched :
    (pollMoved c r s).btnLatched = (btnPoll c s.btnPending s.btnLatched).2 := rfl
@[simp] theorem pollMoved_rsp : (pollMoved c r s).rsp = (Response.polled false r.2).word := rfl

/-- The state after a lookup, in terms of the table entry that it read (R54, R106). -/
theorem pollMoved_of_entry (e : Entry) (hi : entryIndex e = r.1) (ht : entryTag e = r.2.code) :
    pollMoved c r s = { s with
      st := entryIndex e,
      pos := if entryTag e = 0b01#2 then posInc s.cfg.posOverflow s.pos
             else if entryTag e = 0b10#2 then posDec s.cfg.posOverflow s.pos else s.pos,
      btnPending := (btnPoll c s.btnPending s.btnLatched).1,
      btnLatched := (btnPoll c s.btnPending s.btnLatched).2,
      rsp := 0#15 ++ entryTag e, rspValid := true } := by
  rw [hi, ht, ← countDir_eq_ite_code, ← Response.word_polled_released]
  rfl

end

/-- Settles O31: a PRESSED poll is O30's; any other class has a symbol, and from a legal `ST` its lookup reads one
entry, whose tag is the code of the direction it acts on. -/
theorem pollMeaning : Obligations.PollMeaning := by
  unfold Obligations.PollMeaning
  intro s x
  constructor
  · intro hx
    rw [btnPoll_pressed]
    exact pressedPollMakesNoLookup s x hx
  · intro y hy hs
    obtain ⟨r, hr, -⟩ := exists_fsmStep_of_lt hs y
    obtain ⟨e, he, htag, hindex⟩ := (fsmStep_ok_iff ..).1 hr
    have hcode : entryTag e = r.2.code := (dirOfTag_eq_some_iff ..).1 htag
    refine ⟨e, he, ?_⟩
    calc exec (.poll x) s
        = .next (pollMoved (classify s.cfg x) r s) := execPoll_of_lookup x s y r hy hr
      _ = _ := congrArg _ (pollMoved_of_entry _ r s e hindex hcode)

/-- A completed POLL has updated the button flags by the class of its sample (R111). -/
theorem btnFlags_of_poll {s t : State} {x : Sample} (h : exec (.poll x) s = .next t) :
    (t.btnPending, t.btnLatched) = btnPoll (classify s.cfg x) s.btnPending s.btnLatched := by
  rcases execPoll_next_cases x s t h with ⟨hx, rfl⟩ | ⟨y, r, -, -, rfl⟩
  · simp [hx]
  · simp

/-- Settles O34: the flags after a POLL are `btn_poll` of those before, whose three cases are known. -/
theorem buttonFlagsAfterPoll : Obligations.ButtonFlagsAfterPoll := by
  unfold Obligations.ButtonFlagsAfterPoll
  intro s t x h
  have hflags := btnFlags_of_poll h
  refine ⟨fun hx hl => ?_, fun hx hl => ?_, fun hx => ?_⟩
  · rw [hx, hl, btnPoll_pressed_new] at hflags
    exact Prod.mk.inj hflags
  · rw [hx, hl, btnPoll_pressed_held] at hflags
    exact Prod.mk.inj hflags
  · rw [btnPoll_released _ _ _ hx] at hflags
    exact Prod.mk.inj hflags

/-! ### The other operations (R107, R108, R109, R114) -/

/-- A refusal writes the response port only (R114). -/
theorem refuse_eq (s : State) : refuse s = { s with rsp := 0x10000#17, rspValid := true } := rfl

section
variable {s : State}

theorem exec_readPosition_of_raw (h : s.cfg.contract = .raw) :
    exec .readPosition s = .next (s.respond (.position s.pos)) := by
  simp [exec, execReadPosition, h]

theorem exec_readPosition_of_drain (h : s.cfg.contract = .drain) : exec .readPosition s = .next (refuse s) := by
  simp [exec, execReadPosition, h]

theorem exec_handleEvent_of_drain (h : s.cfg.contract = .drain) :
    exec .handleEvent s = .next (deliverEvent s) := by
  simp [exec, execHandleEvent, h]

theorem exec_handleEvent_of_raw (h : s.cfg.contract = .raw) : exec .handleEvent s = .next (refuse s) := by
  simp [exec, execHandleEvent, h]

theorem exec_resetPosition : exec .resetPosition s = .next ((s.setPos 0#16).respond .done) := rfl

theorem deliverEvent_of_pending (hb : s.btnPending = true) :
    deliverEvent s = (s.setButtons false s.btnLatched).respond (.event .press) := by
  simp [deliverEvent, hb]

theorem deliverEvent_of_pos (hb : s.btnPending = false) (hp : 0 < s.pos.toInt) :
    deliverEvent s = (s.setPos (towardZero s.pos)).respond (.event .cw) := by
  simp [deliverEvent, hb, hp]

theorem deliverEvent_of_neg (hb : s.btnPending = false) (hn : s.pos.toInt < 0) :
    deliverEvent s = (s.setPos (towardZero s.pos)).respond (.event .ccw) := by
  simp [deliverEvent, hb, hn, hn.not_gt]

theorem deliverEvent_of_zero (hb : s.btnPending = false) (hz : s.pos.toInt = 0) :
    deliverEvent s = s.respond (.event .none) := by
  simp [deliverEvent, hb, hz]

end

/-- Settles O37: READ_POSITION has one equation per contract. -/
theorem readPositionResponds : Obligations.ReadPositionResponds := by
  unfold Obligations.ReadPositionResponds
  intro s
  constructor
  · exact exec_readPosition_of_raw
  · intro hd
    rw [exec_readPosition_of_drain hd, refuse_eq]

/-- Settles O39: RESET_POSITION asks for nothing, and writes the counter and the response. -/
theorem resetPositionZeroes : Obligations.ResetPositionZeroes := by
  unfold Obligations.ResetPositionZeroes
  intro s
  exact exec_resetPosition

/-- Settles O38: HANDLE_EVENT under its contract delivers by what is pending, and the step toward zero is exact on
both sides of zero. -/
theorem handleEventDelivers : Obligations.HandleEventDelivers := by
  unfold Obligations.HandleEventDelivers
  intro s
  refine ⟨fun hd hb => ?_, fun hd hb hp => ?_, fun hd hb hn => ?_, fun hd hb hz => ?_, fun hr => ?_⟩
  · rw [exec_handleEvent_of_drain hd, deliverEvent_of_pending hb]
    rfl
  · refine ⟨towardZero s.pos, towardZero_toInt_of_pos hp, ?_⟩
    rw [exec_handleEvent_of_drain hd, deliverEvent_of_pos hb hp]
    rfl
  · refine ⟨towardZero s.pos, towardZero_toInt_of_neg hn, ?_⟩
    rw [exec_handleEvent_of_drain hd, deliverEvent_of_neg hb hn]
    rfl
  · rw [exec_handleEvent_of_drain hd, deliverEvent_of_zero hb hz]
    rfl
  · rw [exec_handleEvent_of_raw hr, refuse_eq]

/-! ### What a contract offers (R105, R114) -/

theorem offered_readPosition_iff (c : Contract) : offered c .readPosition = true ↔ c = .raw :=
  decide_eq_true_iff

theorem offered_handleEvent_iff (c : Contract) : offered c .handleEvent = true ↔ c = .drain :=
  decide_eq_true_iff

/-- What a contract does not offer is the query of the other contract, and answers REFUSED (R114). -/
theorem exec_of_not_offered {i : Instr} {s : State} (h : offered s.cfg.contract i = false) :
    exec i s = .next (refuse s) := by
  cases i with
  | poll x => cases h
  | readPosition =>
    cases hc : s.cfg.contract with
    | raw => rw [hc] at h; cases h
    | drain => exact exec_readPosition_of_drain hc
  | handleEvent =>
    cases hc : s.cfg.contract with
    | raw => exact exec_handleEvent_of_raw hc
    | drain => rw [hc] at h; cases h
  | resetPosition => cases h

/-- HANDLE_EVENT under its contract responds an event (R108). -/
theorem exists_deliverEvent_rsp (s : State) : ∃ e, (deliverEvent s).rsp = (Response.event e).word := by
  rcases deliverEvent_cases s with ⟨-, h⟩ | ⟨-, -, h⟩ | ⟨-, -, h⟩ | ⟨-, -, h⟩
  · exact ⟨.press, by rw [h, State.respond_rsp]⟩
  · exact ⟨.cw, by rw [h, State.respond_rsp]⟩
  · exact ⟨.ccw, by rw [h, State.respond_rsp]⟩
  · exact ⟨.none, by rw [h, State.respond_rsp]⟩

/-- What a contract offers answers with a response of its own, if it completes (R106 to R109). -/
theorem exists_response_of_offered {i : Instr} {s t : State} (ho : offered s.cfg.contract i = true)
    (h : exec i s = .next t) : ∃ r : Response, t.rsp = r.word ∧ r.isRefused = false := by
  cases i with
  | poll x =>
    rcases execPoll_next_cases x s t h with ⟨-, rfl⟩ | ⟨y, r, -, -, rfl⟩
    · exact ⟨_, pollPressed_rsp s, rfl⟩
    · exact ⟨_, pollMoved_rsp _ r s, rfl⟩
  | readPosition =>
    rw [exec_readPosition_of_raw ((offered_readPosition_iff _).1 ho)] at h
    cases h
    exact ⟨.position s.pos, rfl, rfl⟩
  | handleEvent =>
    rw [exec_handleEvent_of_drain ((offered_handleEvent_iff _).1 ho)] at h
    cases h
    obtain ⟨e, he⟩ := exists_deliverEvent_rsp s
    exact ⟨.event e, he, rfl⟩
  | resetPosition =>
    rw [exec_resetPosition] at h
    cases h
    exact ⟨.done, rfl, rfl⟩

/-- Settles O40: the offered operations are R105's table; one not offered is the other contract's query, which
writes no register, and an offered one responds a word whose bit 16 is 0. -/
theorem unofferedOperationsAreRefused : Obligations.UnofferedOperationsAreRefused := by
  unfold Obligations.UnofferedOperationsAreRefused
  refine ⟨fun c x => ⟨rfl, rfl⟩, rfl, rfl, rfl, rfl, fun i s => ⟨?_, ?_⟩⟩
  · intro ho
    rw [exec_of_not_offered ho, refuse_eq]
  · intro ho t h
    obtain ⟨r, hr, hnot⟩ := exists_response_of_offered ho h
    rw [hr, Response.extract_refused_word, hnot]
    rfl

/-! ### Edges without a command (R58, R115) -/

/-- An edge with neither `rst` nor a command is an idle edge (R58). -/
theorem step_of_idle {s : State} (hr : (nextPins s).rst = false) (hc : (nextPins s).cmdValid = false) :
    step s = .next (idleEdge (popPins s)) := by
  simp [step, hr, hc]

/-- While the planned pins are idle the next edge's are, planned or beyond the plan (log 3). -/
theorem nextPins_idle {n : Nat} {s : State}
    (h : ∀ p ∈ s.inputs.take (n + 1), p.rst = false ∧ p.cmdValid = false) :
    (nextPins s).rst = false ∧ (nextPins s).cmdValid = false := by
  cases hi : s.inputs with
  | nil =>
    obtain ⟨hnext, -⟩ := nextPins_of_nil s hi
    rw [hnext]
    exact ⟨rfl, rfl⟩
  | cons p ps =>
    obtain ⟨hnext, -⟩ := nextPins_of_cons s p ps hi
    rw [hnext]
    exact h p (by simp [hi])

/-- Settles O6, by induction on the number of edges: the first is an idle edge, which holds everything R115 names,
and the pins of the others are idle. -/
theorem idleEdgesChangeNothing : Obligations.IdleEdgesChangeNothing := by
  unfold Obligations.IdleEdgesChangeNothing
  intro n
  induction n with
  | zero =>
    intro s _
    exact ⟨s, runEdges_zero s, rfl, rfl, rfl, rfl, rfl, rfl⟩
  | succ n ih =>
    intro s h
    obtain ⟨hr, hc⟩ := nextPins_idle h
    have hrest : ∀ p ∈ (idleEdge (popPins s)).inputs.take n, p.rst = false ∧ p.cmdValid = false := by
      intro p hp
      have htail : p ∈ (s.inputs.take (n + 1)).tail := by
        rw [List.tail_take_eq_take_tail]
        exact hp
      exact h p (List.mem_of_mem_tail htail)
    rw [runEdges_succ_of_next n s _ (step_of_idle hr hc)]
    exact ih (idleEdge (popPins s)) hrest

end Sys2Proof.Machine
end

section
/-! PROOFS. No operation stops a legal state (60_exceptions.md R125): each operation, each edge and each run of edges
completes in a legal state (10_state.md R24) with the configuration it began with (R16). -/

namespace Sys2Proof.Machine

/-! ### What the operations leave of the configuration and `ST` -/

@[simp] theorem pollPressed_cfg (s : State) : (pollPressed s).cfg = s.cfg := rfl
@[simp] theorem pollPressed_st (s : State) : (pollPressed s).st = s.st := rfl

@[simp] theorem pollMoved_cfg (c : SampleClass) (r : StIndex × Dir) (s : State) : (pollMoved c r s).cfg = s.cfg := rfl
@[simp] theorem pollMoved_st (c : SampleClass) (r : StIndex × Dir) (s : State) : (pollMoved c r s).st = r.1 := rfl

/-- Whatever HANDLE_EVENT delivers, it writes neither the configuration nor `ST` (R108). -/
theorem deliverEvent_cfg_st (s : State) : (deliverEvent s).cfg = s.cfg ∧ (deliverEvent s).st = s.st := by
  rcases deliverEvent_cases s with ⟨-, h⟩ | ⟨-, -, h⟩ | ⟨-, -, h⟩ | ⟨-, -, h⟩ <;> simp [h]

@[simp] theorem deliverEvent_cfg (s : State) : (deliverEvent s).cfg = s.cfg := (deliverEvent_cfg_st s).1
@[simp] theorem deliverEvent_st (s : State) : (deliverEvent s).st = s.st := (deliverEvent_cfg_st s).2

/-! ### Completion in a legal state -/

/-- START is a state of both modes, so construction is legal under every configuration (R23, R24). -/
theorem legal_construct (c : Cfg) : (State.construct c).Legal := by
  rw [State.Legal, State.construct_st, State.construct_cfg]
  cases c.mode <;> decide

section
variable {s : State}

/-- A PRESSED poll makes no lookup; any other looks its symbol up, which a legal `ST` answers with a legal index
(R82, R91, R106). -/
theorem exists_execPoll_legal (hs : s.Legal) (x : Sample) : ∃ t, execPoll x s = .next t ∧ t.Legal ∧ t.cfg = s.cfg := by
  cases hy : symbolOf (classify s.cfg x) with
  | none =>
    have hx : classify s.cfg x = .pressed := (symbolOf_eq_none_iff _).1 hy
    exact ⟨_, execPoll_of_pressed x s hx, by simpa [State.Legal] using hs, pollPressed_cfg s⟩
  | some y =>
    obtain ⟨r, hr, hlt⟩ := exists_fsmStep_of_lt hs y
    exact ⟨_, execPoll_of_lookup x s y r hy hr, by simpa [State.Legal] using hlt, pollMoved_cfg _ r s⟩

/-- Each operation completes, offered by the contract or not (R114, R125). -/
theorem exists_exec_legal (hs : s.Legal) (i : Instr) : ∃ t, exec i s = .next t ∧ t.Legal ∧ t.cfg = s.cfg := by
  cases i with
  | poll x => exact exists_execPoll_legal hs x
  | readPosition =>
    cases hc : s.cfg.contract with
    | raw => exact ⟨_, exec_readPosition_of_raw hc, hs, rfl⟩
    | drain => exact ⟨_, exec_readPosition_of_drain hc, hs, rfl⟩
  | handleEvent =>
    cases hc : s.cfg.contract with
    | raw => exact ⟨_, exec_handleEvent_of_raw hc, hs, rfl⟩
    | drain => exact ⟨_, exec_handleEvent_of_drain hc, by simpa [State.Legal] using hs, deliverEvent_cfg s⟩
  | resetPosition => exact ⟨_, exec_resetPosition, hs, rfl⟩

/-- Each edge completes, whatever its pins: `rst` puts `ST` back to START, an idle edge keeps it, and a command is an
operation (R58). -/
theorem exists_step_legal (hs : s.Legal) : ∃ t, step s = .next t ∧ t.Legal ∧ t.cfg = s.cfg := by
  have hpop : (popPins s).Legal := hs
  rcases step_cases s with ⟨-, h⟩ | ⟨-, -, h⟩ | ⟨-, -, h⟩
  · exact ⟨_, h, legal_construct s.cfg, rfl⟩
  · rw [h]
    exact exists_exec_legal hpop _
  · exact ⟨_, h, hpop, rfl⟩

/-- Each run of edges completes, by induction on their number. -/
theorem exists_runEdges_legal (n : Nat) (hs : s.Legal) : ∃ t, runEdges n s = .next t ∧ t.Legal ∧ t.cfg = s.cfg := by
  induction n generalizing s with
  | zero => exact ⟨s, runEdges_zero s, hs, rfl⟩
  | succ n ih =>
    obtain ⟨u, hstep, hu, hcfg⟩ := exists_step_legal hs
    rw [runEdges_succ_of_next n s u hstep, ← hcfg]
    exact ih hu

end

/-- Settles O45: from a legal state every operation and every run of edges completes in one, and construction is
legal whatever pins the host has planned. -/
theorem nothingStopsALegalState : Obligations.NothingStopsALegalState := by
  unfold Obligations.NothingStopsALegalState
  constructor
  · intro s hs i
    obtain ⟨t, ht, hlegal, -⟩ := exists_exec_legal hs i
    exact ⟨t, ht, hlegal⟩
  · intro c ps n
    have hlegal : State.Legal { State.construct c with inputs := ps } := legal_construct c
    exact exists_runEdges_legal n hlegal

end Sys2Proof.Machine
end

section
/-! PROOFS. Construction and the `rst` edge (70_reset_and_hazards.md section 1, R140): both give the reset values, and
neither changes the configuration. -/

namespace Sys2Proof.Machine

/-- `rst` wins over whatever the command pins show (R58). -/
theorem step_of_rst {s : State} (hr : (nextPins s).rst = true) : step s = .next (rstEdge (popPins s)) := by
  simp [step, hr]

/-- The edge at which the host has planned `rst` takes that one entry of the plan (log 3). -/
theorem step_of_rst_cons {s : State} {p : PinInput} {rest : List PinInput} (hi : s.inputs = p :: rest)
    (hr : p.rst = true) : step s = .next (rstEdge { s with inputs := rest }) := by
  obtain ⟨hnext, hpop⟩ := nextPins_of_cons s p rest hi
  rw [step_of_rst (hnext ▸ hr), hpop]

/-- Settles O3: a constructed instance has the reset values, and the `rst` edge writes the same ones over any state,
keeping its configuration. -/
theorem rstEdgeReconstructs : Obligations.RstEdgeReconstructs := by
  unfold Obligations.RstEdgeReconstructs
  constructor
  · intro c
    simp
  · intro s p rest hi hr
    have hstep := step_of_rst_cons hi hr
    exact ⟨_, hstep, by simp⟩

end Sys2Proof.Machine
end

section
/-! PROOFS. Command words, both ways (30_encoding.md R46, R47, R57, R59): an operation's word has its operation code
and its operand in its two fields, and a number is a word when it fits the 12 bits. -/

namespace Sys2Proof

/-! ### The two fields of a word -/

@[simp] theorem opField_append (o : BitVec 2) (x : Sample) : opField (o ++ x) = o :=
  BitVec.extractLsb'_append_eq_left

@[simp] theorem sampleField_append (o : BitVec 2) (x : Sample) : sampleField (o ++ x) = x :=
  BitVec.extractLsb'_append_eq_right

/-- A command word is its operation code before its sample field (R46). -/
theorem opField_append_sampleField (w : Cmd) : opField w ++ sampleField w = w := by
  have hw := BitVec.extractLsb'_append_extractLsb'_eq_extractLsb' (x := w) (start₁ := 0) (len₁ := 10) (start₂ := 10)
    (len₂ := 2) rfl
  rw [opField, sampleField, hw, BitVec.extractLsb'_eq_self]

/-- Bits 9:0 of a word cleared leave its operation code (R57 (b)). -/
theorem and_opMask (w : Cmd) : w &&& 0xC00#12 = opField w ++ 0#10 := by
  have hmask : (0xC00#12 : Cmd) = BitVec.allOnes 2 ++ 0#10 := rfl
  conv_lhs => rw [← opField_append_sampleField w, hmask, BitVec.and_append]
  rw [BitVec.and_allOnes, BitVec.and_zero]

/-! ### Encode, then decode -/

@[simp] theorem opField_encode (i : Instr) : opField (encode i) = opOf i := opField_append _ _

@[simp] theorem sampleField_encode (i : Instr) : sampleField (encode i) = operandOf i := sampleField_append _ _

theorem decode_encode (i : Instr) : decode (encode i) = i := by
  cases i with
  | poll x => rw [decode_of_opPoll (opField_encode _), sampleField_encode, operandOf]
  | readPosition => exact decode_of_opReadPosition (opField_encode _)
  | handleEvent => exact decode_of_opHandleEvent (opField_encode _)
  | resetPosition => exact decode_of_opResetPosition (opField_encode _)

/-! ### Numbers and table words (R46, R59; log 13) -/

theorem decodeNat_of_lt {n : Nat} (h : n < 4096) : decodeNat n = .ok (decode (BitVec.ofNat 12 n)) :=
  if_pos (decide_eq_true h)

theorem decodeNat_of_ge {n : Nat} (h : 4096 ≤ n) : decodeNat n = .error .wordTooWide :=
  if_neg (by simpa [wordInRange] using h)

/-- The number of a command word is decoded as that word. -/
theorem decodeNat_toNat (w : Cmd) : decodeNat w.toNat = .ok (decode w) := by
  rw [decodeNat_of_lt w.isLt, BitVec.ofNat_toNat, BitVec.setWidth_eq]

theorem decodeTableWord_eq_some_iff (nbits n : Nat) (i : Instr) :
    decodeTableWord nbits n = some i ↔ decodeNat (n % 2 ^ nbits) = .ok i := by
  rw [decodeTableWord]
  cases decodeNat (n % 2 ^ nbits) <;> simp

/-- A table word that decodes is the operation of the command word on the port's 12 wires. -/
theorem decode_of_decodeTableWord {nbits n : Nat} {i : Instr} (h : decodeTableWord nbits n = some i) :
    decode (BitVec.ofNat 12 (n % 2 ^ nbits)) = i := by
  rw [decodeTableWord_eq_some_iff] at h
  rcases lt_or_ge (n % 2 ^ nbits) 4096 with hlt | hge
  · rw [decodeNat_of_lt hlt] at h
    exact Except.ok.inj h
  · rw [decodeNat_of_ge hge] at h
    cases h

/-- A table word wide enough for a command word holds it with zeros above. -/
theorem decodeTableWord_toNat {nbits : Nat} (h : 12 ≤ nbits) (w : Cmd) :
    decodeTableWord nbits w.toNat = some (decode w) := by
  have hw : w.toNat < 2 ^ nbits := w.isLt.trans_le (Nat.pow_le_pow_right Nat.two_pos h)
  rw [decodeTableWord_eq_some_iff, Nat.mod_eq_of_lt hw, decodeNat_toNat]

/-- Settles O11: the word's two fields are the operation's own, its number fits 12 bits, and a table word of 12 bits
or more holds that number unchanged. -/
theorem decodeEncodeRoundTrip : Obligations.DecodeEncodeRoundTrip := by
  unfold Obligations.DecodeEncodeRoundTrip
  intro i _
  simp only [decodeNat_toNat, decodeTableWord_toNat (show 12 ≤ 12 by decide),
    decodeTableWord_toNat (show 12 ≤ 16 by decide), decode_encode, and_self]

/-- Settles O12: POLL gives back both fields of its word, any other operation its code alone. -/
theorem encodeDecodeIsCanonical : Obligations.EncodeDecodeIsCanonical := by
  unfold Obligations.EncodeDecodeIsCanonical
  intro w
  change encode (decode w) = if opField w = opPoll then w else w &&& 0xC00#12
  rw [and_opMask]
  split_ifs with hPoll
  · rw [decode_of_opPoll hPoll, encode, opOf, operandOf, ← hPoll, opField_append_sampleField]
  have hother : opField w = opReadPosition ∨ opField w = opHandleEvent ∨ opField w = opResetPosition := by
    generalize opField w = o at hPoll
    revert o
    decide
  rcases hother with h | h | h
  · rw [decode_of_opReadPosition h, h]
    rfl
  · rw [decode_of_opHandleEvent h, h]
    rfl
  · rw [decode_of_opResetPosition h, h]
    rfl

/-- Settles O13: nine words, each decoded from its bits. -/
theorem specWordsDecode : Obligations.SpecWordsDecode := by
  unfold Obligations.SpecWordsDecode
  decide

/-- Settles O14: below 4096 a number is decoded, from there on it is rejected. -/
theorem onlyWideWordsAreRejected : Obligations.OnlyWideWordsAreRejected := by
  unfold Obligations.OnlyWideWordsAreRejected
  intro n
  rcases lt_or_ge n 4096 with hlt | hge
  · simp [decodeNat_of_lt hlt, hlt]
  · simp [decodeNat_of_ge hge, hge]

end Sys2Proof
end

section
/-! PROOFS. What a completed operation and a clock edge leave as it was (10_state.md R15, R16, R24), and which command
an edge runs (30_encoding.md R58; the list of coming pins is log 3's). -/

namespace Sys2Proof.Machine

/-! ### Frames of the operations -/

@[simp] theorem pollPressed_pos (s : State) : (pollPressed s).pos = s.pos := rfl
@[simp] theorem pollPressed_inputs (s : State) : (pollPressed s).inputs = s.inputs := rfl
@[simp] theorem pollPressed_rspValid (s : State) : (pollPressed s).rspValid = true := rfl

section
variable (c : SampleClass) (r : StIndex × Dir) (s : State)

@[simp] theorem pollMoved_pos : (pollMoved c r s).pos = countDir s.cfg.posOverflow r.2 s.pos := rfl
@[simp] theorem pollMoved_inputs : (pollMoved c r s).inputs = s.inputs := rfl
@[simp] theorem pollMoved_rspValid : (pollMoved c r s).rspValid = true := rfl

end

/-- Whatever HANDLE_EVENT delivers, it keeps `BTN_LATCHED` and the host's pins, leaves no press pending, and responds
(R108). -/
theorem deliverEvent_frame (s : State) :
    (deliverEvent s).btnLatched = s.btnLatched ∧ (deliverEvent s).inputs = s.inputs
      ∧ (deliverEvent s).btnPending = false ∧ (deliverEvent s).rspValid = true := by
  rcases deliverEvent_cases s with ⟨-, h⟩ | ⟨hb, -, h⟩ | ⟨hb, -, h⟩ | ⟨hb, -, h⟩
  · simp [h]
  · simp [h, hb]
  · simp [h, hb]
  · simp [h, hb]

@[simp] theorem deliverEvent_btnLatched (s : State) : (deliverEvent s).btnLatched = s.btnLatched :=
  (deliverEvent_frame s).1

@[simp] theorem deliverEvent_btnPending (s : State) : (deliverEvent s).btnPending = false := by
  obtain ⟨-, -, hb, -⟩ := deliverEvent_frame s
  exact hb

/-- A query either answers under its contract or is refused (R114). -/
theorem exec_readPosition_cases {s t : State} (h : exec .readPosition s = .next t) :
    (s.cfg.contract = .raw ∧ t = s.respond (.position s.pos)) ∨ (s.cfg.contract = .drain ∧ t = refuse s) := by
  cases hc : s.cfg.contract with
  | raw => exact .inl ⟨rfl, Host.Outcome.next.inj (h.symm.trans (exec_readPosition_of_raw hc))⟩
  | drain => exact .inr ⟨rfl, Host.Outcome.next.inj (h.symm.trans (exec_readPosition_of_drain hc))⟩

theorem exec_handleEvent_cases {s t : State} (h : exec .handleEvent s = .next t) :
    (s.cfg.contract = .drain ∧ t = deliverEvent s) ∨ (s.cfg.contract = .raw ∧ t = refuse s) := by
  cases hc : s.cfg.contract with
  | raw => exact .inr ⟨rfl, Host.Outcome.next.inj (h.symm.trans (exec_handleEvent_of_raw hc))⟩
  | drain => exact .inl ⟨rfl, Host.Outcome.next.inj (h.symm.trans (exec_handleEvent_of_drain hc))⟩

theorem exec_resetPosition_eq {s t : State} (h : exec .resetPosition s = .next t) :
    t = (s.setPos 0#16).respond .done :=
  Host.Outcome.next.inj h.symm

/-- Every completed operation responds, and keeps the configuration and the host's pins (R16, R58). -/
theorem exec_frame {i : Instr} {s t : State} (h : exec i s = .next t) :
    t.cfg = s.cfg ∧ t.inputs = s.inputs ∧ t.rspValid = true := by
  cases i with
  | poll x => rcases execPoll_next_cases x s t h with ⟨-, rfl⟩ | ⟨y, r, -, -, rfl⟩ <;> simp
  | readPosition => rcases exec_readPosition_cases h with ⟨-, rfl⟩ | ⟨-, rfl⟩ <;> simp
  | handleEvent =>
    rcases exec_handleEvent_cases h with ⟨-, rfl⟩ | ⟨-, rfl⟩
    · obtain ⟨-, hin, -, hvalid⟩ := deliverEvent_frame s
      exact ⟨deliverEvent_cfg s, hin, hvalid⟩
    · simp
  | resetPosition =>
    rw [exec_resetPosition_eq h]
    simp

theorem exec_cfg {i : Instr} {s t : State} (h : exec i s = .next t) : t.cfg = s.cfg := (exec_frame h).1

theorem exec_inputs {i : Instr} {s t : State} (h : exec i s = .next t) : t.inputs = s.inputs := (exec_frame h).2.1

/-- A POLL sets `BTN_PENDING` or keeps it (R111). -/
theorem btnPending_of_poll {s t : State} {x : Sample} (h : exec (.poll x) s = .next t) (hp : s.btnPending = true) :
    t.btnPending = true := by
  have hflags := btnFlags_of_poll h
  by_cases hx : classify s.cfg x = .pressed
  · rw [hx, btnPoll_pressed, hp, Bool.true_or] at hflags
    exact (Prod.mk.inj hflags).1
  · rw [btnPoll_released _ _ _ hx, hp] at hflags
    exact (Prod.mk.inj hflags).1

/-- Settles O41: the writers of each register, operation by operation. -/
theorem registerWriters : Obligations.RegisterWriters := by
  unfold Obligations.RegisterWriters
  intro i s t h
  refine ⟨exec_cfg h, exec_inputs h, ?_⟩
  cases i with
  | poll x => simpa [isPoll] using btnPending_of_poll h
  | readPosition => rcases exec_readPosition_cases h with ⟨-, rfl⟩ | ⟨-, rfl⟩ <;> simp [isPoll]
  | handleEvent => rcases exec_handleEvent_cases h with ⟨-, rfl⟩ | ⟨-, rfl⟩ <;> simp [isPoll]
  | resetPosition =>
    rw [exec_resetPosition_eq h]
    simp [isPoll]

/-! ### Invariants of the clock edge -/

/-- Settles O42: an edge is a `rst`, an operation or an idle edge, and none of them writes the configuration. -/
theorem configurationIsImmutable : Obligations.ConfigurationIsImmutable := by
  unfold Obligations.ConfigurationIsImmutable
  intro s t hstep
  rcases step_cases s with ⟨-, h⟩ | ⟨-, -, h⟩ | ⟨-, -, h⟩
  · cases h.symm.trans hstep
    simp
  · exact (exec_cfg (h.symm.trans hstep)).trans (popPins_cfg s)
  · cases h.symm.trans hstep
    simp

/-- Settles O43: START is a state of both tables. -/
theorem constructionIsLegal : Obligations.ConstructionIsLegal :=
  ⟨legal_construct, legal_construct resetCfg⟩

/-- Settles O44: the edge from a legal state completes in a legal one, and the counter's 16 bits hold nothing outside
its range. -/
theorem everyEdgeKeepsLegalState : Obligations.EveryEdgeKeepsLegalState := by
  unfold Obligations.EveryEdgeKeepsLegalState
  intro s t hs hstep
  obtain ⟨u, hu, hlegal, -⟩ := exists_step_legal hs
  cases hu.symm.trans hstep
  exact ⟨hlegal, pos_range t.pos⟩

/-! ### Which command an edge runs -/

/-- The edge at which the host has planned a command runs it on the state with that entry of the plan taken (R58). -/
theorem step_of_cmd_cons {s : State} {p : PinInput} {rest : List PinInput} (hi : s.inputs = p :: rest)
    (hr : p.rst = false) (hc : p.cmdValid = true) : step s = exec (decode p.cmd) { s with inputs := rest } := by
  obtain ⟨hnext, hpop⟩ := nextPins_of_cons s p rest hi
  simp [step, hnext, hpop, hr, hc]

/-- Settles O4: the three kinds of planned pins, of which `rst` is O3's. -/
theorem clockEdgeRunsDecodedCommand : Obligations.ClockEdgeRunsDecodedCommand := by
  unfold Obligations.ClockEdgeRunsDecodedCommand
  intro s p rest hi
  refine ⟨fun hr => ?_, fun hr hc => ?_, fun hr hc => ?_⟩
  · exact ⟨_, step_of_rst_cons hi hr, by simp⟩
  · have hstep := step_of_cmd_cons hi hr hc
    refine ⟨hstep, fun t ht => ?_⟩
    obtain ⟨-, hin, hvalid⟩ := exec_frame (hstep.symm.trans ht)
    exact ⟨hvalid, hin⟩
  · obtain ⟨hnext, hpop⟩ := nextPins_of_cons s p rest hi
    rw [step_of_idle (hnext ▸ hr) (hnext ▸ hc), hpop]
    rfl

/-- Settles O5: the `rst` edge does not write `rsp` (log 5). -/
theorem rstEdgeHoldsResponseWord : Obligations.RstEdgeHoldsResponseWord := by
  unfold Obligations.RstEdgeHoldsResponseWord
  intro s p rest hi hr
  exact ⟨_, step_of_rst_cons hi hr, rfl⟩

/-- Settles O7: the pins placed are the next edge's, and their word is the operation's. -/
theorem placedWordRunsNext : Obligations.PlacedWordRunsNext := by
  unfold Obligations.PlacedWordRunsNext
  intro nbits w i s hw
  have hstep := step_of_cmd_cons (s := s.withFetchWord nbits w) (rest := s.inputs) rfl rfl rfl
  rw [hstep]
  exact congrArg (exec · s) (decode_of_decodeTableWord hw)

/-! ### Commands in issue order (20_memory.md R37) -/

/-- HANDLE_EVENT does not read the host's plan. -/
theorem deliverEvent_withInputs (s : State) (ps : List PinInput) :
    deliverEvent { s with inputs := ps } = { deliverEvent s with inputs := ps } := by
  unfold deliverEvent
  split_ifs <;> rfl

/-- No operation reads the host's plan. -/
theorem exec_withInputs {i : Instr} {s t : State} (h : exec i s = .next t) (ps : List PinInput) :
    exec i { s with inputs := ps } = .next { t with inputs := ps } := by
  cases i with
  | poll x =>
    rcases execPoll_next_cases x s t h with ⟨hx, rfl⟩ | ⟨y, r, hy, hr, rfl⟩
    · exact execPoll_of_pressed x _ hx
    · exact execPoll_of_lookup x { s with inputs := ps } y r hy hr
  | readPosition =>
    rcases exec_readPosition_cases h with ⟨hc, rfl⟩ | ⟨hc, rfl⟩
    · exact exec_readPosition_of_raw hc
    · exact exec_readPosition_of_drain hc
  | handleEvent =>
    rcases exec_handleEvent_cases h with ⟨hc, rfl⟩ | ⟨hc, rfl⟩
    · exact (exec_handleEvent_of_drain (s := { s with inputs := ps }) hc).trans
        (congrArg _ (deliverEvent_withInputs s ps))
    · exact exec_handleEvent_of_raw hc
  | resetPosition =>
    rw [exec_resetPosition_eq h]
    rfl

/-- Settles O8, by induction on the operations: the first edge runs the first of them, which leaves the plan of the
others and reads none of it. -/
theorem commandsRunInIssueOrder : Obligations.CommandsRunInIssueOrder := by
  unfold Obligations.CommandsRunInIssueOrder
  intro ops
  induction ops with
  | nil =>
    intro rest s t rs hi hrun
    cases hrun
    obtain rfl : s.inputs = rest := hi
    exact runEdges_zero s
  | cons i is ih =>
    intro rest s t rs hi hrun
    obtain ⟨u, qs, hu, hrest, rfl⟩ := runOps_cons_some i is _ t rs hrun
    have hplan : u.inputs = rest := exec_inputs hu
    have hstep : step s = .next { u with inputs := commandSchedule is ++ rest } := by
      rw [step_of_cmd_cons (p := commandPins (encode i)) hi rfl rfl]
      exact (congrArg (exec · _) (decode_encode i)).trans (exec_withInputs hu _)
    rw [List.length_cons, runEdges_succ_of_next _ s _ hstep]
    refine ih rest _ t qs rfl ?_
    rw [← hplan]
    exact hrest

end Sys2Proof.Machine
end

section
/-! PROOFS. What the classifier's premises give (40_classifier.md R68, R69, R74), and the derived reading of both
contacts closed, exact and floored (R71, R72, R73). -/

namespace Sys2Proof.Machine

/-! ### Windows as bands of integers -/

theorem within_iff_windowBand (s x v : Sample) : within s x v = true ↔ windowBand x v s.toNat :=
  within_eq_true_iff s x v

/-- A reading lies in the band around it. -/
theorem windowBand_self (x v : Sample) : windowBand x v x.toNat := by
  constructor <;> omega

theorem within_self (x v : Sample) : within x x v = true := (within_iff_windowBand x x v).2 (windowBand_self x v)

/-- A sample of a band apart from a window is outside that window. -/
theorem not_within_of_apart {x v : Sample} {p : Int → Prop} (h : Apart (windowBand x v) p) {s : Sample}
    (hs : p s.toNat) : within s x v = false := by
  rw [← Bool.not_eq_true, within_iff_windowBand]
  exact fun hw => h _ hw hs

/-- A sample of a band apart from the PRESSED band is above the variance. -/
theorem var_lt_of_apart {c : Cfg} {p : Int → Prop} (h : Apart (pressedBand c) p) {s : Sample} (hs : p s.toNat) :
    c.var.toNat < s.toNat := by
  by_contra hle
  exact h _ ⟨by omega, by omega⟩ hs

/-- The ten pairs of R74's five bands. -/
theorem bandsDisjoint_iff (c : Cfg) :
    BandsDisjoint c ↔
      (Apart (pressedBand c) (windowBand c.eAB c.var) ∧ Apart (pressedBand c) (windowBand c.eA c.var)
        ∧ Apart (pressedBand c) (windowBand c.eB c.var) ∧ Apart (pressedBand c) openBand)
      ∧ (Apart (windowBand c.eAB c.var) (windowBand c.eA c.var) ∧ Apart (windowBand c.eAB c.var) (windowBand c.eB c.var)
        ∧ Apart (windowBand c.eAB c.var) openBand)
      ∧ (Apart (windowBand c.eA c.var) (windowBand c.eB c.var) ∧ Apart (windowBand c.eA c.var) openBand)
      ∧ Apart (windowBand c.eB c.var) openBand := by
  simp [BandsDisjoint]

/-- Settles O19: each nominal reading lies in its own band, so outside the bands the classifier tests before. -/
theorem disjointBandsClassifyNominals : Obligations.DisjointBandsClassifyNominals := by
  unfold Obligations.DisjointBandsClassifyNominals
  intro c h
  obtain ⟨⟨hPAB, hPA, hPB, hPO⟩, ⟨hABA, hABB, hABO⟩, ⟨hAB, hAO⟩, hBO⟩ := (bandsDisjoint_iff c).1 h
  have hA := windowBand_self c.eA c.var
  have hB := windowBand_self c.eB c.var
  have hO : openBand (BitVec.ofNat 10 adcMax).toNat := rfl
  refine ⟨?_, ?_, ?_, ?_, ?_⟩
  · exact classify_of_within_eAB (var_lt_of_apart hPAB (windowBand_self c.eAB c.var)) (within_self c.eAB c.var)
  · exact classify_of_within_eA (var_lt_of_apart hPA hA) (not_within_of_apart hABA hA) (within_self c.eA c.var)
  · exact classify_of_within_eB (var_lt_of_apart hPB hB) (not_within_of_apart hABB hB) (not_within_of_apart hAB hB)
      (within_self c.eB c.var)
  · exact classify_of_outside (var_lt_of_apart hPO hO) (not_within_of_apart hABO hO) (not_within_of_apart hAO hO)
      (not_within_of_apart hBO hO)
  · exact classify_of_le_var (Nat.zero_le _)

/-- Settles O17: a sample is never outside `0 .. ADC_MAX`, so saturating a bound there cuts nothing off. -/
theorem saturatedWindowAgrees : Obligations.SaturatedWindowAgrees := by
  unfold Obligations.SaturatedWindowAgrees
  intro s x v
  have hs := sample_toNat_le_adcMax s
  rw [within_eq_true_iff, max_le_iff, le_min_iff]
  omega

/-- Settles O18: the first condition of the classifier; sample 0 meets it, and every sample does at full scale. -/
theorem lowSamplesArePressed : Obligations.LowSamplesArePressed := by
  unfold Obligations.LowSamplesArePressed
  intro c s
  exact ⟨classify_of_le_var, classify_of_le_var (Nat.zero_le _),
    fun h => classify_of_le_var ((sample_toNat_le_adcMax s).trans h)⟩

/-! ### The derived reading -/

/-- Settles O22: the denominator is `m*b + a*(m-b)` and also `m*a + b*(m-a)`; so it exceeds both `m*b`, which puts the
quotient below `a`, and `m*a`, which puts it below `b`. -/
theorem derivedReadingIsBelowBoth : Obligations.DerivedReadingIsBelowBoth := by
  unfold Obligations.DerivedReadingIsBelowBoth
  intro a b m ha ham hb hbm
  have hm : 0 < m := ha.trans ham
  have hgtB : m * b < m * (a + b) - a * b := by linarith [mul_pos ha (sub_pos.2 hbm)]
  have hgtA : m * a < m * (a + b) - a * b := by linarith [mul_pos hb (sub_pos.2 ham)]
  have hden : 0 < m * (a + b) - a * b := (mul_pos hm hb).trans hgtB
  refine ⟨_, deriveBothExact_of_ne_zero hden.ne', div_pos (mul_pos (mul_pos hm ha) hb) hden, lt_min ?_ ?_⟩
  · rw [div_lt_iff₀ hden, mul_right_comm, mul_comm]
    exact mul_lt_mul_of_pos_left hgtB ha
  · rw [div_lt_iff₀ hden, mul_comm]
    exact mul_lt_mul_of_pos_left hgtA hb

/-- The denominator over naturals as a sum, for a reading up to full scale (R72). -/
theorem deriveBoth_denominator (a : Nat) {b m : Nat} (hb : b ≤ m) : m * (a + b) - a * b = m * b + a * (m - b) := by
  obtain ⟨k, rfl⟩ := Nat.exists_eq_add_of_le hb
  rw [Nat.add_sub_cancel_left]
  apply Nat.sub_eq_of_eq_add
  ring

/-- The floored reading has no value exactly where the denominator is 0 (R71, R72). -/
theorem deriveBoth_eq_none_iff (a b m : Nat) : deriveBoth a b m = none ↔ m * (a + b) - a * b = 0 := by
  simp [deriveBoth]

theorem deriveBoth_eq_some_iff (a b m e : Nat) :
    deriveBoth a b m = some e ↔ m * (a + b) - a * b ≠ 0 ∧ m * a * b / (m * (a + b) - a * b) = e := by
  simp [deriveBoth]

theorem deriveBoth_comm (a b m : Nat) : deriveBoth a b m = deriveBoth b a m := by
  rw [deriveBoth, deriveBoth, Nat.add_comm, Nat.mul_comm a b, Nat.mul_right_comm]

/-- The floored reading is at most its first argument: the denominator is at least `m*b` (R72). -/
theorem deriveBoth_le_left {a b m e : Nat} (hb : b ≤ m) (h : deriveBoth a b m = some e) : e ≤ a := by
  obtain ⟨-, rfl⟩ := (deriveBoth_eq_some_iff ..).1 h
  apply Nat.div_le_of_le_mul
  rw [deriveBoth_denominator a hb, Nat.mul_right_comm]
  exact Nat.mul_le_mul_right a (Nat.le_add_right _ _)

theorem deriveBoth_le_min {a b m e : Nat} (ha : a ≤ m) (hb : b ≤ m) (h : deriveBoth a b m = some e) : e ≤ min a b :=
  le_min (deriveBoth_le_left hb h) (deriveBoth_le_left ha ((deriveBoth_comm b a m).trans h))

/-- Settles O23: both forms divide the same naturals, one over the rationals, the other rounding down. -/
theorem derivedReadingIsFloor : Obligations.DerivedReadingIsFloor := by
  unfold Obligations.DerivedReadingIsFloor
  intro a b e h
  have ha := sample_toNat_le_adcMax a
  have hb := sample_toNat_le_adcMax b
  refine ⟨deriveBoth_le_min ha hb h, ?_⟩
  obtain ⟨hne, rfl⟩ := (deriveBoth_eq_some_iff ..).1 h
  have hsub : a.toNat * b.toNat ≤ adcMax * (a.toNat + b.toNat) :=
    Nat.mul_le_mul ha (Nat.le_add_left _ _)
  have hcast : ((adcMax * (a.toNat + b.toNat) - a.toNat * b.toNat : ℕ) : ℚ)
      = (adcMax : ℚ) * (a.toNat + b.toNat) - a.toNat * b.toNat := by
    push_cast [Nat.cast_sub hsub]
    rfl
  refine ⟨_, deriveBothExact_of_ne_zero (hcast ▸ Nat.cast_ne_zero.2 hne), ?_⟩
  rw [← hcast, ← Nat.cast_mul, ← Nat.cast_mul, Rat.floor_natCast_div_natCast, Int.natCast_div]

/-- No reading is derived only from readings that are both 0 (R71). -/
theorem deriveBoth_sample_eq_none_iff (a b : Sample) :
    deriveBoth a.toNat b.toNat adcMax = none ↔ a = 0#10 ∧ b = 0#10 := by
  have hb := sample_toNat_le_adcMax b
  rw [deriveBoth_eq_none_iff, deriveBoth_denominator _ hb, ← BitVec.toNat_inj, ← BitVec.toNat_inj]
  simp only [BitVec.toNat_ofNat, Nat.zero_mod, Nat.add_eq_zero_iff, Nat.mul_eq_zero, adcMax]
  omega

/-- Settles O24: construction fails where the derivation does, and a derived reading fits the ten bits of `E_AB`
because it is at most either reading. -/
theorem constructedConfigurationHoldsChoices : Obligations.ConstructedConfigurationHoldsChoices := by
  unfold Obligations.ConstructedConfigurationHoldsChoices
  intro a b v m k o
  rw [← deriveBoth_sample_eq_none_iff]
  cases he : deriveBoth a.toNat b.toNat adcMax with
  | none => simp [makeCfg, he]
  | some e =>
    have hle : e ≤ a.toNat := deriveBoth_le_left (sample_toNat_le_adcMax b) he
    have hfit : (BitVec.ofNat 10 e).toNat = e := by
      rw [BitVec.toNat_ofNat]
      exact Nat.mod_eq_of_lt (hle.trans_lt a.isLt)
    simp only [makeCfg, he, reduceCtorEq, Option.some.injEq, forall_eq', hfit, and_self]

/-- Settles O2: the readings derive 360, and the five bands are `0..15`, `345..375`, `385..415`, `785..815` and
`1023`. -/
theorem resetConfigurationIsDerived : Obligations.ResetConfigurationIsDerived := by
  unfold Obligations.ResetConfigurationIsDerived
  refine ⟨rfl, by unfold InRange; decide, ?_⟩
  change BandsDisjoint resetCfg
  simp only [bandsDisjoint_iff, Apart, pressedBand, windowBand, openBand, resetCfg, adcMax, BitVec.toNat_ofNat]
  refine ⟨⟨?_, ?_, ?_, ?_⟩, ⟨?_, ?_, ?_⟩, ⟨?_, ?_⟩, ?_⟩ <;> intros <;> omega

end Sys2Proof.Machine
end

section
/-! PROOFS. One poll (42_operations.md R106) and one lookup (41_quadrature.md R80): where a poll stops, what it
responds, and what it reads; the tagged and pinned entries of the tables, and the states before a pulse (R83, R85). -/

namespace Sys2Proof.Machine

/-! ### Where a poll stops (30_encoding.md R57 (c); log 6) -/

/-- The ROM has no word exactly at the addresses of an index without a table row. -/
theorem tableRead_eq_none_iff (m : Mode) (s : StIndex) (y : QuadSymbol) :
    tableRead m s y = none ↔ ¬ s.toNat < stateCount m := by
  have hy : y.toNat < 4 := y.isLt
  rw [tableRead, List.getElem?_eq_none_iff, length_tableOf]
  omega

theorem fsmStep_of_no_row {m : Mode} {s : StIndex} (hs : ¬ s.toNat < stateCount m) (y : QuadSymbol) :
    fsmStep m s y = .error .noTableWord := by
  simp [fsmStep, (tableRead_eq_none_iff m s y).2 hs]

/-- A class with a symbol is not PRESSED (R70). -/
theorem ne_pressed_of_symbolOf {c : SampleClass} {y : QuadSymbol} (h : symbolOf c = some y) : c ≠ .pressed := by
  rintro rfl
  cases h

/-- A POLL whose lookup stops is that stop. -/
theorem execPoll_of_lookup_error {x : Sample} {s : State} {y : QuadSymbol} {f : Fault}
    (hy : symbolOf (classify s.cfg x) = some y) (hf : fsmStep s.cfg.mode s.st y = .error f) :
    execPoll x s = .fault f := by
  simp [execPoll, hy, hf]

/-- Settles O32: a PRESSED poll completes, any other completes from a legal `ST`, and from any other `ST` its lookup
finds no table word. -/
theorem pollStopsOnlyOffTheTable : Obligations.PollStopsOnlyOffTheTable := by
  unfold Obligations.PollStopsOnlyOffTheTable
  intro s x
  change (∀ f, execPoll x s = .fault f ↔ _) ∧ ∀ r, execPoll x s ≠ .refused r
  cases hy : symbolOf (classify s.cfg x) with
  | none =>
    have hx := (symbolOf_eq_none_iff _).1 hy
    simp [execPoll_of_pressed x s hx, hx]
  | some y =>
    have hx : classify s.cfg x ≠ .pressed := ne_pressed_of_symbolOf hy
    by_cases hs : s.Legal
    · obtain ⟨r, hr, -⟩ := exists_fsmStep_of_lt hs y
      simp [execPoll_of_lookup x s y r hy hr, hs]
    · simp [execPoll_of_lookup_error hy (fsmStep_of_no_row hs y), hs, hx, eq_comm]

/-! ### Response words as numbers (R49 to R51) -/

@[simp] theorem Response.word_polled_pressed : (Response.polled true .none).word = 0x00004#17 := by decide
@[simp] theorem Response.word_polled_none : (Response.polled false .none).word = 0x00000#17 := by decide
@[simp] theorem Response.word_polled_cw : (Response.polled false .cw).word = 0x00001#17 := by decide
@[simp] theorem Response.word_polled_ccw : (Response.polled false .ccw).word = 0x00002#17 := by decide
@[simp] theorem Response.word_event_none : (Response.event .none).word = 0x00000#17 := by decide
@[simp] theorem Response.word_event_cw : (Response.event .cw).word = 0x00001#17 := by decide
@[simp] theorem Response.word_event_ccw : (Response.event .ccw).word = 0x00002#17 := by decide
@[simp] theorem Response.word_event_press : (Response.event .press).word = 0x00003#17 := by decide
@[simp] theorem Response.word_refused : Response.refused.word = 0x10000#17 := by decide

/-! ### What a poll responds and reads -/

/-- Settles O35: a lookup gives one of three directions, and the word and the counter follow it. -/
theorem pollCountsItsOnePulse : Obligations.PollCountsItsOnePulse := by
  unfold Obligations.PollCountsItsOnePulse
  intro s t x h
  rcases execPoll_next_cases x s t h with ⟨hx, rfl⟩ | ⟨y, ⟨i, d⟩, hy, -, rfl⟩
  · exact .inl ⟨hx, rfl, rfl⟩
  · have hx : classify s.cfg x ≠ .pressed := ne_pressed_of_symbolOf hy
    cases d with
    | none => exact .inr (.inl ⟨hx, Response.word_polled_none, rfl⟩)
    | cw => exact .inr (.inr (.inl ⟨hx, Response.word_polled_cw, rfl⟩))
    | ccw => exact .inr (.inr (.inr ⟨hx, Response.word_polled_ccw, rfl⟩))

/-- Polls of one sample in two states with one configuration and one `ST` make the same lookup (R80); so they also keep
two equal counters equal. -/
theorem poll_of_same_st {s u t : State} {x : Sample} (hcfg : s.cfg = u.cfg) (hst : s.st = u.st)
    (h : exec (.poll x) s = .next t) :
    ∃ v, exec (.poll x) u = .next v ∧ v.st = t.st ∧ v.rsp = t.rsp ∧ (s.pos = u.pos → v.pos = t.pos) := by
  rcases execPoll_next_cases x s t h with ⟨hx, rfl⟩ | ⟨y, r, hy, hr, rfl⟩
  · refine ⟨_, execPoll_of_pressed x u (hcfg ▸ hx), hst.symm, rfl, fun hp => ?_⟩
    simp [hp]
  · rw [hcfg] at hy hr ⊢
    rw [hst] at hr
    refine ⟨_, execPoll_of_lookup x u y r hy hr, rfl, rfl, fun hp => ?_⟩
    simp [hp, hcfg]

/-- Settles O36: the two polls make the same lookup. -/
theorem decoderReadsOnlySt : Obligations.DecoderReadsOnlySt := by
  unfold Obligations.DecoderReadsOnlySt
  intro s u x hcfg hst t h
  obtain ⟨v, hv, hvst, hvrsp, -⟩ := poll_of_same_st hcfg hst h
  exact ⟨v, hv, hvst, hvrsp⟩

/-! ### Single entries -/

/-- The tagged entries of one table, address by address (R85 (a), R88 (a)). -/
theorem tagged_entries (m : Mode) (s : StIndex) (y : QuadSymbol) :
    ∀ e ∈ tableRead m s y,
      (entryTag e = 0b01#2 ↔ (m = .full ∧ s = FullState.cwFinal.index ∧ y = 0b00#2)
        ∨ (m = .half ∧ s = HalfState.cwBegin.index ∧ y = 0b11#2)
        ∨ (m = .half ∧ s = HalfState.cwBeginM.index ∧ y = 0b00#2))
      ∧ (entryTag e = 0b10#2 ↔ (m = .full ∧ s = FullState.ccwFinal.index ∧ y = 0b00#2)
        ∨ (m = .half ∧ s = HalfState.ccwBegin.index ∧ y = 0b11#2)
        ∨ (m = .half ∧ s = HalfState.ccwBeginM.index ∧ y = 0b00#2)) := by
  revert s y
  cases m <;> decide

/-- Settles O27: both tables hold no tag `11`, and the other tags stand where they were found. -/
theorem taggedEntriesAreExactly : Obligations.TaggedEntriesAreExactly := by
  unfold Obligations.TaggedEntriesAreExactly
  intro m s y e he
  exact ⟨entryTag_ne_both (mem_tableOf_of_tableRead he), tagged_entries m s y e he⟩

/-- Settles O28: fifteen lookups. -/
theorem fullStepPinnedEntries : Obligations.FullStepPinnedEntries :=
  ⟨rfl, rfl, rfl, rfl, rfl, rfl, rfl, rfl, rfl, rfl, rfl, rfl, rfl, rfl, rfl⟩

end Sys2Proof.Machine
end

section
/-! PROOFS. The states before a full-step pulse (41_quadrature.md R85 (b), (c)): while a walk from START keeps away
from START, it stays on one chain and has passed the chain's states up to the one it is in. -/

namespace Sys2Proof.Machine

/-- BEGIN, NEXT and FINAL of the clockwise chain (R83 (a)). -/
def cwChain : List StIndex := [FullState.cwBegin.index, FullState.cwNext.index, FullState.cwFinal.index]

/-- BEGIN, NEXT and FINAL of the counter-clockwise chain (R83 (b)). -/
def ccwChain : List StIndex := [FullState.ccwBegin.index, FullState.ccwNext.index, FullState.ccwFinal.index]

/-- The chain a state of FULL mode stands on; START stands on none. -/
def chainOf (v : StIndex) : List StIndex :=
  if v ∈ cwChain then cwChain else if v ∈ ccwChain then ccwChain else []

/-- The states of its chain up to a state. -/
def chainUpTo (v : StIndex) : List StIndex := (chainOf v).take ((chainOf v).idxOf v + 1)

/-- The states visited since START all stand on the chain of the present state `v`, and hold its states up to `v` in
order. -/
def PassedChainTo (hs : List StIndex) (v : StIndex) : Prop :=
  (chainUpTo v).Sublist hs ∧ ∀ w ∈ hs, w ∈ chainOf v

theorem passedChainTo_start : PassedChainTo [] FullState.start.index := by
  unfold PassedChainTo
  decide

/-- One lookup between states other than START stays on the chain and goes at most one state further. -/
theorem fsmStep_full_keeps_chain (v : StIndex) (y : QuadSymbol) :
    ∀ r ∈ (fsmStep .full v y).toOption, r.1 ≠ FullState.start.index →
      (chainUpTo r.1).Sublist (chainUpTo v ++ [r.1]) ∧ r.1 ∈ chainOf r.1 ∧ ∀ w ∈ chainOf v, w ∈ chainOf r.1 := by
  revert v y
  decide

/-- A full-step pulse comes on `00`, into START, from FINAL of its direction (R85 (a), (b)). -/
theorem fsmStep_full_pulse (v : StIndex) (y : QuadSymbol) :
    ∀ r ∈ (fsmStep .full v y).toOption,
      (r.2 ≠ .none → y = 0b00#2 ∧ r.1 = FullState.start.index)
      ∧ (r.2 = .cw → v = FullState.cwFinal.index) ∧ (r.2 = .ccw → v = FullState.ccwFinal.index) := by
  revert v y
  decide

theorem mem_toOption_of_ok {o : Except Fault (StIndex × Dir)} {r : StIndex × Dir} (h : o = .ok r) :
    r ∈ o.toOption := by
  rw [h]
  rfl

theorem passedChainTo_step {hs : List StIndex} {v : StIndex} {y : QuadSymbol} {r : StIndex × Dir}
    (h : PassedChainTo hs v) (hr : fsmStep .full v y = .ok r) (hstart : r.1 ≠ FullState.start.index) :
    PassedChainTo (hs ++ [r.1]) r.1 := by
  obtain ⟨hsub, hmem⟩ := h
  obtain ⟨hfurther, hself, hkeep⟩ := fsmStep_full_keeps_chain v y r (mem_toOption_of_ok hr) hstart
  refine ⟨hfurther.trans (hsub.append_right _), fun w hw => ?_⟩
  rcases List.mem_append.1 hw with hw | hw
  · exact hkeep w (hmem w hw)
  · exact List.mem_singleton.1 hw ▸ hself

/-- A walk that visits something has made its first lookup. -/
theorem fsmVisits_cons_some {m : Mode} {v : StIndex} {y : QuadSymbol} {ys : List QuadSymbol} {vs : List StIndex}
    (h : fsmVisits m v (y :: ys) = some vs) :
    ∃ r ws, fsmStep m v y = .ok r ∧ fsmVisits m r.1 ys = some ws ∧ vs = r.1 :: ws := by
  unfold fsmVisits at h
  split at h
  · cases h
  · next r hr =>
    obtain ⟨ws, hws, rfl⟩ := Option.map_eq_some_iff.1 h
    exact ⟨r, ws, hr, hws, rfl⟩

/-- The whole walk, by induction on its symbols. -/
theorem passedChainTo_of_fsmVisits {ys : List QuadSymbol} {hs vs : List StIndex} {v u : StIndex}
    (hv : fsmVisits .full v ys = some vs) (hstart : FullState.start.index ∉ vs) (hu : (v :: vs).getLast? = some u)
    (h : PassedChainTo hs v) : PassedChainTo (hs ++ vs) u := by
  induction ys generalizing hs vs v with
  | nil =>
    cases hv
    cases hu
    rwa [List.append_nil]
  | cons y ys ih =>
    obtain ⟨r, ws, hr, hws, rfl⟩ := fsmVisits_cons_some hv
    obtain ⟨hne, hrest⟩ := not_or.1 (List.mem_cons.not.1 hstart)
    have hlast : (r.1 :: ws).getLast? = some u := by rwa [List.getLast?_cons_cons] at hu
    rw [List.append_cons]
    exact ih hws hrest hlast (passedChainTo_step h hr (Ne.symm hne))

/-- Settles O29: the last state visited is FINAL of the pulse's direction, and the visited states have passed its chain
up to there. -/
theorem pulsePassesItsChainOfStates : Obligations.PulsePassesItsChainOfStates := by
  unfold Obligations.PulsePassesItsChainOfStates
  intro ys vs u v y d hv hstart hu hr
  have hlast : (FullState.start.index :: vs).getLast? = some u := by rw [List.getLast?_cons, hu]; rfl
  have hpassed := passedChainTo_of_fsmVisits hv hstart hlast passedChainTo_start
  rw [List.nil_append] at hpassed
  obtain ⟨hpulse, hcw, hccw⟩ := fsmStep_full_pulse u y (v, d) (mem_toOption_of_ok hr)
  refine ⟨hpulse, fun hd => ?_, fun hd => ?_⟩
  · rw [hcw hd] at hpassed
    exact hpassed
  · rw [hccw hd] at hpassed
    exact hpassed

end Sys2Proof.Machine
end

section
/-! PROOFS. Runs of operations (42_operations.md, 20_memory.md R37): rotation and presses over a run, the drained
counter, the button flags under each contract, and the operation right after a pulse. -/

namespace Sys2Proof.Machine

/-! ### Runs, operation by operation -/

/-- A run goes on from where its first operation left off. -/
theorem runOps_cons_of_run {i : Instr} {is : List Instr} {s t u : State} {rs : List Rsp} (h : exec i s = .next t)
    (hrun : runOps is t = some (u, rs)) : runOps (i :: is) s = some (u, t.rsp :: rs) := by
  rw [runOps_cons_of_next i is s t h, hrun]
  rfl

theorem runOps_singleton {i : Instr} {s t : State} (h : exec i s = .next t) : runOps [i] s = some (t, [t.rsp]) :=
  runOps_cons_of_run h (runOps_nil t)

theorem runOps_pair {i j : Instr} {s t u : State} (h : exec i s = .next t) (h' : exec j t = .next u) :
    runOps [i, j] s = some (u, [t.rsp, u.rsp]) :=
  runOps_cons_of_run h (runOps_singleton h')

/-! ### Rotation (R106, R108, R110) -/

theorem posInc_wrap (p : Pos) : posInc .wrap p = p + BitVec.ofInt 16 1 := by
  rw [posInc, narrowPos, wrap16, BitVec.ofInt_add, BitVec.ofInt_toInt]

theorem posDec_wrap (p : Pos) : posDec .wrap p = p + BitVec.ofInt 16 (-1) := by
  rw [posDec, narrowPos, wrap16, Int.sub_eq_add_neg, BitVec.ofInt_add, BitVec.ofInt_toInt]

theorem pos_add_ofInt_zero (p : Pos) : p + BitVec.ofInt 16 0 = p := BitVec.add_zero p

/-- What HANDLE_EVENT reports of rotation is what it takes out of the counter. -/
theorem deliverEvent_pos_eq (s : State) :
    (deliverEvent s).pos = s.pos + BitVec.ofInt 16 (rotationOf .handleEvent (deliverEvent s).rsp) := by
  rcases deliverEvent_cases s with ⟨-, h⟩ | ⟨-, -, h⟩ | ⟨-, -, h⟩ | ⟨-, -, h⟩
  · simp [h, rotationOf]
  · rw [h]
    exact posDec_wrap s.pos
  · rw [h]
    exact posInc_wrap s.pos
  · simp [h, rotationOf]

/-- Under WRAP each operation but RESET_POSITION moves the counter by the rotation its response reports. -/
theorem exec_pos_eq {i : Instr} {s t : State} (hwrap : s.cfg.posOverflow = .wrap) (hi : i ≠ .resetPosition)
    (h : exec i s = .next t) : t.pos = s.pos + BitVec.ofInt 16 (rotationOf i t.rsp) := by
  cases i with
  | poll x =>
    rcases execPoll_next_cases x s t h with ⟨-, rfl⟩ | ⟨y, ⟨v, d⟩, -, -, rfl⟩
    · simp [rotationOf]
    · cases d with
      | none => simp [rotationOf]
      | cw => simpa [rotationOf, hwrap] using posInc_wrap s.pos
      | ccw => simpa [rotationOf, hwrap] using posDec_wrap s.pos
  | readPosition =>
    rcases exec_readPosition_cases h with ⟨-, rfl⟩ | ⟨-, rfl⟩
    · exact (pos_add_ofInt_zero s.pos).symm
    · exact (pos_add_ofInt_zero s.pos).symm
  | handleEvent =>
    rcases exec_handleEvent_cases h with ⟨-, rfl⟩ | ⟨-, rfl⟩
    · exact deliverEvent_pos_eq s
    · simp [rotationOf]
  | resetPosition => exact absurd rfl hi

/-- Settles O46, by induction on the operations: the sum of what each of them moves, modulo 2^16. -/
theorem rotationIsConserved : Obligations.RotationIsConserved := by
  unfold Obligations.RotationIsConserved
  intro ops
  induction ops with
  | nil =>
    intro s t rs _ _ hrun
    cases hrun
    simp
  | cons i is ih =>
    intro s t rs hwrap hreset hrun
    obtain ⟨u, qs, hu, hrest, rfl⟩ := runOps_cons_some i is s t rs hrun
    obtain ⟨hi, his⟩ := not_or.1 (List.mem_cons.not.1 hreset)
    have hhead := exec_pos_eq hwrap (Ne.symm hi) hu
    have htail := ih u t qs (exec_cfg hu ▸ hwrap) his hrest
    rw [BitVec.ofInt_add, BitVec.ofInt_toInt] at htail ⊢
    rw [htail, hhead, List.zipWith_cons_cons, List.sum_cons, BitVec.ofInt_add, BitVec.add_assoc]

/-! ### Draining (R108 (e)) -/

/-- A step toward zero takes one off the magnitude, and none off zero. -/
theorem towardZero_natAbs (p : Pos) : (towardZero p).toInt.natAbs = p.toInt.natAbs - 1 := by
  rcases lt_trichotomy 0 p.toInt with hp | hz | hn
  · rw [towardZero_toInt_of_pos hp]
    omega
  · simp [towardZero, ← hz]
  · rw [towardZero_toInt_of_neg hn]
    omega

/-- The word HANDLE_EVENT reports a nonzero counter by. -/
def drainWord (p : Pos) : Rsp := if 0 < p.toInt then 0x00001#17 else 0x00002#17

/-- A step toward zero that does not reach zero keeps the sign. -/
theorem drainWord_towardZero {p : Pos} (h : 1 < p.toInt.natAbs) : drainWord (towardZero p) = drainWord p := by
  refine if_congr ?_ rfl rfl
  rcases lt_or_ge 0 p.toInt with hp | hn
  · rw [towardZero_toInt_of_pos hp]
    omega
  · rw [towardZero_toInt_of_neg (by omega)]
    omega

/-- With no press pending, HANDLE_EVENT takes one off a nonzero counter and reports its sign. -/
theorem deliverEvent_of_nonzero {s : State} (hb : s.btnPending = false) (h : s.pos.toInt ≠ 0) :
    (deliverEvent s).pos = towardZero s.pos ∧ (deliverEvent s).rsp = drainWord s.pos := by
  rcases lt_or_gt_of_ne h with hn | hp
  · rw [deliverEvent_of_neg hb hn, drainWord, if_neg hn.not_gt]
    exact ⟨rfl, Response.word_event_ccw⟩
  · rw [deliverEvent_of_pos hb hp, drainWord, if_pos hp]
    exact ⟨rfl, Response.word_event_cw⟩

/-- As many HANDLE_EVENTs as the counter's magnitude, by induction on it. -/
theorem runOps_drain (n : Nat) {s : State} (hc : s.cfg.contract = .drain) (hb : s.btnPending = false)
    (hn : s.pos.toInt.natAbs = n) :
    ∃ t, runOps (List.replicate n .handleEvent) s = some (t, List.replicate n (drainWord s.pos))
      ∧ t.pos = 0#16 ∧ t.st = s.st ∧ t.btnPending = false ∧ t.btnLatched = s.btnLatched := by
  induction n generalizing s with
  | zero =>
    have hzero : s.pos = 0#16 := BitVec.toInt_inj.1 ((Int.natAbs_eq_zero.1 hn).trans BitVec.toInt_zero.symm)
    exact ⟨s, runOps_nil s, hzero, rfl, hb, rfl⟩
  | succ n ih =>
    obtain ⟨hpos, hrsp⟩ := deliverEvent_of_nonzero (s := s) hb (by omega)
    have hrest : (deliverEvent s).pos.toInt.natAbs = n := by
      rw [hpos, towardZero_natAbs, hn, Nat.add_sub_cancel]
    have hwords : List.replicate n (drainWord (deliverEvent s).pos) = List.replicate n (drainWord s.pos) := by
      cases n with
      | zero => simp only [List.replicate_zero]
      | succ k => rw [hpos, drainWord_towardZero (by omega)]
    obtain ⟨t, hrun, hzero, hst, hpending, hlatched⟩ := ih (s := deliverEvent s) (by simpa using hc) (by simp) hrest
    refine ⟨t, ?_, hzero, hst.trans (deliverEvent_st s), hpending, hlatched.trans (deliverEvent_btnLatched s)⟩
    have hcons := runOps_cons_of_run (exec_handleEvent_of_drain hc) hrun
    rwa [hrsp, hwords] at hcons

/-- Settles O47: the counter's magnitude counts the calls. -/
theorem drainingEmptiesTheCounter : Obligations.DrainingEmptiesTheCounter := by
  unfold Obligations.DrainingEmptiesTheCounter
  intro s hc hb
  exact runOps_drain _ hc hb rfl

/-! ### One press per hold (R112) -/

/-- HANDLE_EVENT under its contract delivers a press exactly when one is pending. -/
theorem deliverEvent_rsp_press_iff (s : State) :
    (deliverEvent s).rsp = 0x00003#17 ↔ s.btnPending = true := by
  rcases deliverEvent_cases s with ⟨hb, h⟩ | ⟨hb, -, h⟩ | ⟨hb, -, h⟩ | ⟨hb, -, h⟩
  · simp [h, hb]
  · simp [h, hb]
  · simp [h, hb]
  · simp [h, hb]

/-- Presses delivered and still pending over a run of PRESSED polls and HANDLE_EVENTs, from any state in which no press
is pending before the hold is seen: a first poll of the hold adds one, and nothing else does. -/
theorem presses_of_held_run {ops : List Instr} {s : State} (hc : s.cfg.contract = .drain)
    (hfresh : s.btnLatched = false → s.btnPending = false)
    (hops : ∀ i ∈ ops, i = .handleEvent ∨ ∃ x, i = .poll x ∧ classify s.cfg x = .pressed) :
    ∃ t rs, runOps ops s = some (t, rs)
      ∧ rs.count 0x00003#17 + t.btnPending.toNat
        = s.btnPending.toNat + (if ops.any isPoll && !s.btnLatched then 1 else 0) := by
  induction ops generalizing s with
  | nil => exact ⟨s, [], runOps_nil s, by simp⟩
  | cons i is ih =>
    obtain ⟨hi, his⟩ := List.forall_mem_cons.1 hops
    rcases hi with rfl | ⟨x, rfl, hx⟩
    · obtain ⟨t, rs, hrun, hcount⟩ := ih (s := deliverEvent s) (by simpa using hc) (by simp) (by simpa using his)
      refine ⟨t, _, runOps_cons_of_run (exec_handleEvent_of_drain hc) hrun, ?_⟩
      have hpress := deliverEvent_rsp_press_iff s
      rw [deliverEvent_btnPending, deliverEvent_btnLatched] at hcount
      cases hb : s.btnPending with
      | true =>
        rw [hpress.2 hb, List.count_cons_self, Nat.add_right_comm, hcount]
        simp [isPoll, Nat.add_comm]
      | false =>
        rw [List.count_cons_of_ne (mt hpress.1 (by simp [hb])), hcount]
        simp [isPoll]
    · have hflags := btnPoll_pressed s.btnPending s.btnLatched
      obtain ⟨t, rs, hrun, hcount⟩ := ih (s := pollPressed s) hc (by simp [hflags]) his
      refine ⟨t, _, runOps_cons_of_run (execPoll_of_pressed x s hx) hrun, ?_⟩
      rw [pollPressed_rsp, Response.word_polled_pressed, List.count_cons_of_ne (by decide), hcount]
      cases hl : s.btnLatched with
      | true => simp [hl]
      | false => simp [hl, hfresh hl, isPoll]

/-- Settles O48: with both flags clear, the count of `presses_of_held_run` starts from nothing. -/
theorem heldPressIsDeliveredOnce : Obligations.HeldPressIsDeliveredOnce := by
  unfold Obligations.HeldPressIsDeliveredOnce
  intro ops s hc hp hl hops
  obtain ⟨t, rs, hrun, hcount⟩ := presses_of_held_run hc (fun _ => hp) hops
  exact ⟨t, rs, hrun, by simpa [hp, hl] using hcount⟩

/-! ### The four flag combinations (10_state.md R14) -/

/-- Settles O49: no operation for `(0,0)`; a press for `(1,1)`; its delivery within the hold for `(0,1)`, its release
before delivery for `(1,0)`. -/
theorem fourButtonStatesAreReached : Obligations.FourButtonStatesAreReached := by
  unfold Obligations.FourButtonStatesAreReached
  intro c hc hvar p l
  have hpress : exec (.poll 0#10) (State.construct c) = .next (pollPressed (State.construct c)) :=
    execPoll_of_pressed 0#10 _ (classify_of_le_var (Nat.zero_le _))
  cases p <;> cases l
  · exact ⟨[], _, _, runOps_nil _, rfl, rfl⟩
  · exact ⟨[.poll 0#10, .handleEvent], _, _, runOps_pair hpress (exec_handleEvent_of_drain hc), by simp, by simp⟩
  · have hlegal : (pollPressed (State.construct c)).Legal := legal_construct c
    obtain ⟨t, ht, -, -⟩ := exists_exec_legal hlegal (.poll (BitVec.ofNat 10 adcMax))
    have hopen : classify c (BitVec.ofNat 10 adcMax) ≠ .pressed := by
      rw [Ne, (classifierPriority _ _).1]
      exact hvar.not_ge
    obtain ⟨-, -, hreleased⟩ := buttonFlagsAfterPoll _ t _ ht
    obtain ⟨hpending, hlatched⟩ := hreleased hopen
    exact ⟨[.poll 0#10, .poll _], _, _, runOps_pair hpress ht, hpending, hlatched⟩
  · exact ⟨[.poll 0#10], _, _, runOps_singleton hpress, rfl, rfl⟩

/-! ### The button flags under RAW (R152) -/

/-- Two states that differ at most in the button flags and on the ports. -/
def SameButFlags (s u : State) : Prop := s.cfg = u.cfg ∧ s.st = u.st ∧ s.pos = u.pos

/-- Under RAW an operation responds from the parts two such states share, and leaves two such states. -/
theorem exec_of_sameButFlags {i : Instr} {s u t : State} (h : SameButFlags s u) (hraw : s.cfg.contract = .raw)
    (ht : exec i s = .next t) : ∃ v, exec i u = .next v ∧ v.rsp = t.rsp ∧ SameButFlags t v := by
  obtain ⟨hcfg, hst, hpos⟩ := h
  have hraw' : u.cfg.contract = .raw := hcfg ▸ hraw
  cases i with
  | poll x =>
    obtain ⟨v, hv, hvst, hvrsp, hvpos⟩ := poll_of_same_st hcfg hst ht
    exact ⟨v, hv, hvrsp, by rw [exec_cfg ht, exec_cfg hv, hcfg], hvst.symm, (hvpos hpos).symm⟩
  | readPosition =>
    cases ht.symm.trans (exec_readPosition_of_raw hraw)
    exact ⟨_, exec_readPosition_of_raw hraw', by simp [hpos], hcfg, hst, hpos⟩
  | handleEvent =>
    cases ht.symm.trans (exec_handleEvent_of_raw hraw)
    exact ⟨_, exec_handleEvent_of_raw hraw', rfl, hcfg, hst, hpos⟩
  | resetPosition =>
    rw [exec_resetPosition_eq ht]
    exact ⟨_, exec_resetPosition, rfl, hcfg, hst, rfl⟩

/-- Under RAW a run answers the same from two such states, by induction on its operations. -/
theorem runOps_of_sameButFlags {ops : List Instr} {s u t : State} {rs : List Rsp} (h : SameButFlags s u)
    (hraw : s.cfg.contract = .raw) (hrun : runOps ops s = some (t, rs)) : ∃ v, runOps ops u = some (v, rs) := by
  induction ops generalizing s u rs with
  | nil =>
    cases hrun
    exact ⟨u, runOps_nil u⟩
  | cons i is ih =>
    obtain ⟨s', qs, hs', hrest, rfl⟩ := runOps_cons_some i is s t rs hrun
    obtain ⟨u', hu', hrsp, h'⟩ := exec_of_sameButFlags h hraw hs'
    obtain ⟨v, hv⟩ := ih h' (exec_cfg hs' ▸ hraw) hrest
    exact ⟨v, hrsp ▸ runOps_cons_of_run hu' hv⟩

/-- Settles O50: a list of responses from either state is one from the other. -/
theorem rawContractHidesButtonFlags : Obligations.RawContractHidesButtonFlags := by
  unfold Obligations.RawContractHidesButtonFlags
  intro ops s p l hraw
  have hsame : SameButFlags s { s with btnPending := p, btnLatched := l } := ⟨rfl, rfl, rfl⟩
  have hsame' : SameButFlags { s with btnPending := p, btnLatched := l } s := ⟨rfl, rfl, rfl⟩
  ext rs
  simp only [Option.map_eq_some_iff, Prod.exists, exists_eq_right]
  constructor
  · rintro ⟨t, ht⟩
    exact runOps_of_sameButFlags hsame' hraw ht
  · rintro ⟨t, ht⟩
    exact runOps_of_sameButFlags hsame hraw ht

/-! ### The operation right after a pulse (R37) -/

/-- A POLL that responds a pulse has moved the counter by it, and was not PRESSED. -/
theorem pos_of_pulse {s t : State} {x : Sample} {q : Pos} (h : exec (.poll x) s = .next t)
    (hq : t.rsp = 0x00001#17 ∧ q = posInc s.cfg.posOverflow s.pos
      ∨ t.rsp = 0x00002#17 ∧ q = posDec s.cfg.posOverflow s.pos) :
    t.pos = q ∧ classify s.cfg x ≠ .pressed := by
  rcases pollCountsItsOnePulse s t x h with ⟨-, hr, -⟩ | ⟨-, hr, -⟩ | ⟨hx, hr, hp⟩ | ⟨hx, hr, hp⟩
  · simp [hr] at hq
  · simp [hr] at hq
  · obtain rfl : q = posInc s.cfg.posOverflow s.pos := by simpa [hr] using hq
    exact ⟨hp, hx⟩
  · obtain rfl : q = posDec s.cfg.posOverflow s.pos := by simpa [hr] using hq
    exact ⟨hp, hx⟩

/-- Settles O51: the counter of the state the POLL leaves is `q`, its press is the one pending before, and the next
operation starts there. -/
theorem pulseIsVisibleToTheNextRead : Obligations.PulseIsVisibleToTheNextRead := by
  unfold Obligations.PulseIsVisibleToTheNextRead
  intro s t x q h hq
  obtain ⟨rfl, hx⟩ := pos_of_pulse h hq
  have hcfg := exec_cfg h
  obtain ⟨-, -, hreleased⟩ := buttonFlagsAfterPoll s t x h
  obtain ⟨hpending, -⟩ := hreleased hx
  rw [← hcfg, ← hpending]
  obtain ⟨hPress, hUp, hDown, hNone, -⟩ := handleEventDelivers t
  refine ⟨fun hc => ?_, fun hc hb hp => ?_, fun hc hb hn => ?_, fun hc hb hz => ?_, fun hc hb => ?_⟩
  · exact ⟨_, runOps_pair h ((readPositionResponds t).1 hc), rfl⟩
  · obtain ⟨q, hq, hexec⟩ := hUp hc hb hp
    exact ⟨_, runOps_pair h hexec, hq⟩
  · obtain ⟨q, hq, hexec⟩ := hDown hc hb hn
    exact ⟨_, runOps_pair h hexec, hq⟩
  · exact ⟨_, runOps_pair h (hNone hc hb hz), rfl⟩
  · exact ⟨_, runOps_pair h (hPress hc hb), rfl⟩

end Sys2Proof.Machine
end

section
/-! PROOFS. Polls by the class of their samples (42_operations.md R91, R106): one poll, a run of polls without a pulse,
and such a run ended by a pulse. -/

namespace Sys2Proof.Machine

/-! ### One poll by its class -/

/-- What a poll of class `c` makes of the index `v`: PRESSED makes no lookup, any other looks its symbol up (R91). -/
def pollStep (m : Mode) (v : StIndex) (c : SampleClass) : Except Fault (StIndex × Dir) :=
  match symbolOf c with
  | none => .ok (v, .none)
  | some y => fsmStep m v y

/-- The response word of a poll of class `c` with direction `d` (R50). -/
def pollWord (c : SampleClass) (d : Dir) : Rsp := (Response.polled (decide (c = .pressed)) d).word

theorem pollWord_of_released {c : SampleClass} (hc : c ≠ .pressed) (d : Dir) : pollWord c d = 0#15 ++ d.code := by
  rw [pollWord, decide_eq_false hc, Response.word_polled_released]

theorem pollWord_none_cases (c : SampleClass) : pollWord c .none = 0x00000#17 ∨ pollWord c .none = 0x00004#17 := by
  cases c <;> decide

/-- The word of a pulse names its direction. -/
theorem pollWord_eq_pulse {c : SampleClass} {d : Dir} :
    (pollWord c d = 0x00001#17 → d = .cw) ∧ (pollWord c d = 0x00002#17 → d = .ccw) := by
  cases c <;> cases d <;> decide

theorem pollStep_pressed (m : Mode) (v : StIndex) : pollStep m v .pressed = .ok (v, .none) := rfl

theorem pollStep_of_symbol {m : Mode} {v : StIndex} {c : SampleClass} {y : QuadSymbol} (hy : symbolOf c = some y) :
    pollStep m v c = fsmStep m v y := by
  simp [pollStep, hy]

/-- A poll whose class has an answer completes with it. -/
theorem poll_of_pollStep {s : State} {x : Sample} {r : StIndex × Dir}
    (h : pollStep s.cfg.mode s.st (classify s.cfg x) = .ok r) :
    ∃ t, exec (.poll x) s = .next t ∧ t.cfg = s.cfg ∧ t.st = r.1
      ∧ t.pos = countDir s.cfg.posOverflow r.2 s.pos ∧ t.rsp = pollWord (classify s.cfg x) r.2 := by
  cases hy : symbolOf (classify s.cfg x) with
  | none =>
    have hx := (symbolOf_eq_none_iff _).1 hy
    rw [hx, pollStep_pressed] at h
    cases h
    exact ⟨_, execPoll_of_pressed x s hx, rfl, rfl, rfl, by rw [hx]; rfl⟩
  | some y =>
    rw [pollStep_of_symbol hy] at h
    refine ⟨_, execPoll_of_lookup x s y r hy h, rfl, rfl, rfl, ?_⟩
    rw [pollMoved_rsp, pollWord, decide_eq_false (ne_pressed_of_symbolOf hy)]

/-- A completed poll has had an answer for its class. -/
theorem pollStep_of_poll {s t : State} {x : Sample} (h : exec (.poll x) s = .next t) :
    ∃ d, pollStep s.cfg.mode s.st (classify s.cfg x) = .ok (t.st, d) ∧ t.rsp = pollWord (classify s.cfg x) d := by
  have hanswer : ∃ r, pollStep s.cfg.mode s.st (classify s.cfg x) = .ok r := by
    rcases execPoll_next_cases x s t h with ⟨hx, -⟩ | ⟨y, r, hy, hr, -⟩
    · exact ⟨_, hx ▸ pollStep_pressed _ _⟩
    · exact ⟨r, (pollStep_of_symbol hy).trans hr⟩
  obtain ⟨⟨v, d⟩, hr⟩ := hanswer
  obtain ⟨u, hu, -, rfl, -, hrsp⟩ := poll_of_pollStep hr
  cases hu.symm.trans h
  exact ⟨d, hr, hrsp⟩

/-! ### Polls without a pulse -/

/-- Polls of the classes `cs` go from one index to another without a pulse. -/
inductive QuietWalk (m : Mode) : StIndex → List SampleClass → StIndex → Prop where
  | nil (v : StIndex) : QuietWalk m v [] v
  | cons {v w u : StIndex} {c : SampleClass} {cs : List SampleClass} :
    pollStep m v c = .ok (w, .none) → QuietWalk m w cs u → QuietWalk m v (c :: cs) u

theorem QuietWalk.single {m : Mode} {v w : StIndex} {c : SampleClass} (h : pollStep m v c = .ok (w, .none)) :
    QuietWalk m v [c] w := .cons h (.nil w)

theorem QuietWalk.append {m : Mode} {v w u : StIndex} {cs ds : List SampleClass} (h : QuietWalk m v cs w)
    (h' : QuietWalk m w ds u) : QuietWalk m v (cs ++ ds) u := by
  induction h with
  | nil v => exact h'
  | cons hstep _ ih => exact .cons hstep (ih h')

/-- Classes that keep an index keep a walk there. -/
theorem QuietWalk.of_stay {m : Mode} {v : StIndex} {cs : List SampleClass}
    (h : ∀ c ∈ cs, pollStep m v c = .ok (v, .none)) : QuietWalk m v cs v := by
  induction cs with
  | nil => exact .nil v
  | cons c cs ih =>
    obtain ⟨hc, hrest⟩ := List.forall_mem_cons.1 h
    exact .cons hc (ih hrest)

/-- Repeats of a class that enters `w` and then stays there, with PRESSED anywhere between, enter `w` (R83 (e), R91). -/
theorem QuietWalk.of_repeats {m : Mode} {v w : StIndex} {c : SampleClass} (henter : pollStep m v c = .ok (w, .none))
    (hstay : pollStep m w c = .ok (w, .none)) {cs : List SampleClass} (hcs : ∀ k ∈ cs, k = c ∨ k = .pressed)
    (hc : c ∈ cs) : QuietWalk m v cs w := by
  induction cs with
  | nil => cases hc
  | cons k cs ih =>
    obtain ⟨hk, hrest⟩ := List.forall_mem_cons.1 hcs
    by_cases hkc : k = c
    · subst hkc
      refine .cons henter (.of_stay fun l hl => ?_)
      rcases hrest l hl with rfl | rfl
      · exact hstay
      · exact pollStep_pressed m w
    · obtain rfl := hk.resolve_left hkc
      exact .cons (pollStep_pressed m v) (ih hrest ((List.mem_cons.1 hc).resolve_left (Ne.symm hkc)))

/-- Two classes that lead from either of two indices each to its own: chatter between them stays there, and one more
sample of the second class ends in its index (R85 (d)). -/
theorem QuietWalk.of_chatter {m : Mode} {v₁ v₂ : StIndex} {c₁ c₂ : SampleClass}
    (h₁ : ∀ v ∈ [v₁, v₂], pollStep m v c₁ = .ok (v₁, .none)) (h₂ : ∀ v ∈ [v₁, v₂], pollStep m v c₂ = .ok (v₂, .none))
    {cs : List SampleClass} (hcs : ∀ c ∈ cs, c = c₁ ∨ c = c₂) {v : StIndex} (hv : v ∈ [v₁, v₂]) :
    QuietWalk m v (cs ++ [c₂]) v₂ := by
  induction cs generalizing v with
  | nil => exact .single (h₂ v hv)
  | cons c cs ih =>
    obtain ⟨hc, hrest⟩ := List.forall_mem_cons.1 hcs
    rcases hc with rfl | rfl
    · exact .cons (h₁ v hv) (ih hrest (by simp))
    · exact .cons (h₂ v hv) (ih hrest (by simp))

/-! ### The runs of operations that walk so -/

theorem polls_append (xs ys : List Sample) : polls (xs ++ ys) = polls xs ++ polls ys := List.map_append

/-- The responses of polls without a pulse. -/
def quietWords (c : Cfg) (xs : List Sample) : List Rsp := xs.map fun x => pollWord (classify c x) .none

theorem quietWords_mem {c : Cfg} {xs : List Sample} {w : Rsp} (h : w ∈ quietWords c xs) :
    w = 0x00000#17 ∨ w = 0x00004#17 := by
  obtain ⟨x, -, rfl⟩ := List.mem_map.1 h
  exact pollWord_none_cases (classify c x)

theorem quietWords_of_released {c : Cfg} {xs : List Sample} (h : .pressed ∉ xs.map (classify c)) :
    quietWords c xs = List.replicate xs.length 0x00000#17 := by
  refine List.map_eq_replicate_iff.2 fun x hx => ?_
  exact pollWord_of_released (fun hp => h (List.mem_map.2 ⟨x, hx, hp⟩)) .none

/-- A walk without a pulse is a run of polls that leaves the counter alone. -/
theorem runOps_of_quietWalk {xs : List Sample} {s : State} {v : StIndex}
    (h : QuietWalk s.cfg.mode s.st (xs.map (classify s.cfg)) v) :
    ∃ t, runOps (polls xs) s = some (t, quietWords s.cfg xs) ∧ t.cfg = s.cfg ∧ t.st = v ∧ t.pos = s.pos := by
  induction xs generalizing s with
  | nil =>
    cases h
    exact ⟨s, runOps_nil s, rfl, rfl, rfl⟩
  | cons x xs ih =>
    cases h with
    | cons hstep hwalk =>
      obtain ⟨u, hu, hcfg, rfl, hpos, hrsp⟩ := poll_of_pollStep hstep
      obtain ⟨t, hrun, htcfg, hst, htpos⟩ := ih (s := u) (by rwa [hcfg])
      refine ⟨t, ?_, htcfg.trans hcfg, hst, htpos.trans hpos⟩
      have hcons := runOps_cons_of_run hu hrun
      rwa [hrsp, hcfg] at hcons

/-- Such a walk and one poll with a pulse are a run that counts the pulse, on its last poll. -/
theorem runOps_of_quietWalk_pulse {xs : List Sample} {x : Sample} {s : State} {v w : StIndex} {d : Dir}
    (h : QuietWalk s.cfg.mode s.st (xs.map (classify s.cfg)) v)
    (hpulse : pollStep s.cfg.mode v (classify s.cfg x) = .ok (w, d)) :
    ∃ t, runOps (polls (xs ++ [x])) s = some (t, quietWords s.cfg xs ++ [pollWord (classify s.cfg x) d])
      ∧ t.cfg = s.cfg ∧ t.st = w ∧ t.pos = countDir s.cfg.posOverflow d s.pos := by
  obtain ⟨u, hrun, hcfg, rfl, hpos⟩ := runOps_of_quietWalk h
  rw [← hcfg] at hpulse
  obtain ⟨t, ht, htcfg, hst, htpos, hrsp⟩ := poll_of_pollStep hpulse
  refine ⟨t, ?_, htcfg.trans hcfg, hst, by rw [htpos, hcfg, hpos]⟩
  rw [polls_append, runOps_append _ _ s u _ hrun]
  change (runOps [.poll x] u).map _ = _
  rw [runOps_singleton ht, Option.map_some, hrsp, hcfg]

/-- The same with no PRESSED sample: no pulse in any response but the last. -/
theorem runOps_of_released_pulse {xs : List Sample} {x : Sample} {s : State} {v w : StIndex} {d : Dir}
    (h : QuietWalk s.cfg.mode s.st (xs.map (classify s.cfg)) v)
    (hpulse : pollStep s.cfg.mode v (classify s.cfg x) = .ok (w, d))
    (hxs : .pressed ∉ xs.map (classify s.cfg)) (hx : classify s.cfg x ≠ .pressed) :
    ∃ t, runOps (polls (xs ++ [x])) s = some (t, List.replicate xs.length 0x00000#17 ++ [0#15 ++ d.code])
      ∧ t.cfg = s.cfg ∧ t.st = w ∧ t.pos = countDir s.cfg.posOverflow d s.pos := by
  rw [← quietWords_of_released hxs, ← pollWord_of_released hx]
  exact runOps_of_quietWalk_pulse h hpulse

end Sys2Proof.Machine
end

section
/-! PROOFS. Detents (41_quadrature.md R83, R85 (d), R86; 30_encoding.md R61; 70_reset_and_hazards.md R153): the polls of a
detent are a walk without a pulse to the last state of its chain, and the poll that completes it. -/

namespace Sys2Proof.Machine

/-! ### The two full-step chains -/

/-- A chain of the full-step table, with the lookups on it (R83, R84). -/
structure FullChain where
  stBegin : StIndex
  stNext : StIndex
  stFinal : StIndex
  /-- The class that leaves START. -/
  entering : SampleClass
  /-- The class of the other contact, sampled last before OPEN. -/
  leaving : SampleClass
  dir : Dir
  entering_released : entering ≠ .pressed
  leaving_released : leaving ≠ .pressed
  step_start_entering : pollStep .full FullState.start.index entering = .ok (stBegin, .none)
  step_begin_entering : pollStep .full stBegin entering = .ok (stBegin, .none)
  step_begin_both : pollStep .full stBegin .both = .ok (stNext, .none)
  step_next_entering : pollStep .full stNext entering = .ok (stBegin, .none)
  step_next_both : pollStep .full stNext .both = .ok (stNext, .none)
  step_next_leaving : pollStep .full stNext leaving = .ok (stFinal, .none)
  step_final_both : pollStep .full stFinal .both = .ok (stNext, .none)
  step_final_leaving : pollStep .full stFinal leaving = .ok (stFinal, .none)
  step_final_opened : pollStep .full stFinal .opened = .ok (FullState.start.index, dir)

/-- The clockwise chain (R83 (a)). -/
def fullCw : FullChain where
  stBegin := FullState.cwBegin.index
  stNext := FullState.cwNext.index
  stFinal := FullState.cwFinal.index
  entering := .aOnly
  leaving := .bOnly
  dir := .cw
  entering_released := by decide
  leaving_released := by decide
  step_start_entering := rfl
  step_begin_entering := rfl
  step_begin_both := rfl
  step_next_entering := rfl
  step_next_both := rfl
  step_next_leaving := rfl
  step_final_both := rfl
  step_final_leaving := rfl
  step_final_opened := rfl

/-- The counter-clockwise chain (R83 (b)). -/
def fullCcw : FullChain where
  stBegin := FullState.ccwBegin.index
  stNext := FullState.ccwNext.index
  stFinal := FullState.ccwFinal.index
  entering := .bOnly
  leaving := .aOnly
  dir := .ccw
  entering_released := by decide
  leaving_released := by decide
  step_start_entering := rfl
  step_begin_entering := rfl
  step_begin_both := rfl
  step_next_entering := rfl
  step_next_both := rfl
  step_next_leaving := rfl
  step_final_both := rfl
  step_final_leaving := rfl
  step_final_opened := rfl

section
variable (K : FullChain)

/-- The chain from START, each class once. -/
theorem FullChain.walk_from_start :
    QuietWalk .full FullState.start.index [K.entering, .both, K.leaving] K.stFinal :=
  .cons K.step_start_entering (.cons K.step_begin_both (.single K.step_next_leaving))

/-- Each class any number of times, with PRESSED anywhere between (R83 (e), R91). -/
theorem FullChain.walk_repeats {as bs cs : List SampleClass} (has : ∀ k ∈ as, k = K.entering ∨ k = .pressed)
    (ha : K.entering ∈ as) (hbs : ∀ k ∈ bs, k = .both ∨ k = .pressed) (hb : .both ∈ bs)
    (hcs : ∀ k ∈ cs, k = K.leaving ∨ k = .pressed) (hc : K.leaving ∈ cs) :
    QuietWalk .full FullState.start.index (as ++ bs ++ cs) K.stFinal :=
  ((QuietWalk.of_repeats K.step_start_entering K.step_begin_entering has ha).append
    (.of_repeats K.step_begin_both K.step_next_both hbs hb)).append
    (.of_repeats K.step_next_leaving K.step_final_leaving hcs hc)

/-- Chatter between the last two classes, in NEXT and FINAL (R85 (d)). -/
theorem FullChain.walk_chatter_leaving {v : StIndex} (hv : v ∈ [K.stNext, K.stFinal]) {cs : List SampleClass}
    (hcs : ∀ c ∈ cs, c = .both ∨ c = K.leaving) : QuietWalk .full v (cs ++ [K.leaving]) K.stFinal :=
  .of_chatter (by simp [K.step_next_both, K.step_final_both]) (by simp [K.step_next_leaving, K.step_final_leaving])
    hcs hv

/-- Chatter between the first two classes, in BEGIN and NEXT (R85 (d)). -/
theorem FullChain.walk_chatter_entering {v : StIndex} (hv : v ∈ [K.stBegin, K.stNext]) {cs : List SampleClass}
    (hcs : ∀ c ∈ cs, c = K.entering ∨ c = .both) : QuietWalk .full v (cs ++ [.both]) K.stNext :=
  .of_chatter (by simp [K.step_begin_entering, K.step_next_entering]) (by simp [K.step_begin_both, K.step_next_both])
    hcs hv

variable {s : State} {xs : List Sample} {r : Sample} (hfull : s.cfg.mode = .full) (hr : classify s.cfg r = .opened)
include hfull hr

/-- Polls that walk to FINAL without a pulse, and an OPEN poll: the detent counts once, on that poll. -/
theorem FullChain.detent (h : QuietWalk .full s.st (xs.map (classify s.cfg)) K.stFinal) :
    ∃ t, runOps (polls (xs ++ [r])) s = some (t, quietWords s.cfg xs ++ [0#15 ++ K.dir.code])
      ∧ t.st = FullState.start.index ∧ t.pos = countDir s.cfg.posOverflow K.dir s.pos := by
  have hpulse : pollStep s.cfg.mode K.stFinal (classify s.cfg r) = .ok (FullState.start.index, K.dir) := by
    rw [hfull, hr, K.step_final_opened]
  obtain ⟨t, hrun, -, hst, hpos⟩ := runOps_of_quietWalk_pulse (hfull ▸ h) hpulse
  rw [pollWord_of_released (by simp [hr])] at hrun
  exact ⟨t, hrun, hst, hpos⟩

/-- The same with no PRESSED sample, whose response would show the press. -/
theorem FullChain.detent_released (h : QuietWalk .full s.st (xs.map (classify s.cfg)) K.stFinal)
    (hxs : .pressed ∉ xs.map (classify s.cfg)) :
    ∃ t, runOps (polls (xs ++ [r])) s
        = some (t, List.replicate xs.length 0x00000#17 ++ [0#15 ++ K.dir.code])
      ∧ t.st = FullState.start.index ∧ t.pos = countDir s.cfg.posOverflow K.dir s.pos := by
  rw [← quietWords_of_released hxs]
  exact K.detent hfull hr h

end

/-- Settles O52: OPEN stays in START, and the three classes of each chain lead from there to its FINAL. -/
theorem fullStepDetentCountsOne : Obligations.FullStepDetentCountsOne := by
  unfold Obligations.FullStepDetentCountsOne
  intro s o a b c r hfull hst ho ha hb hc hr
  have hopen : pollStep .full FullState.start.index .opened = .ok (FullState.start.index, .none) := rfl
  constructor
  · have hmap : [o, a, b, c].map (classify s.cfg) = [.opened, .aOnly, .both, .bOnly] := by simp [ho, ha, hb, hc]
    exact fullCw.detent_released (xs := [o, a, b, c]) hfull hr
      (by rw [hmap, hst]; exact .cons hopen fullCw.walk_from_start) (by simp [hmap])
  · have hmap : [o, c, b, a].map (classify s.cfg) = [.opened, .bOnly, .both, .aOnly] := by simp [ho, ha, hb, hc]
    exact fullCcw.detent_released (xs := [o, c, b, a]) hfull hr
      (by rw [hmap, hst]; exact .cons hopen fullCcw.walk_from_start) (by simp [hmap])

/-- Settles O53: the repeats of each class walk one state further along either chain. -/
theorem repeatedSymbolsAndPressesCountOnce : Obligations.RepeatedSymbolsAndPressesCountOnce := by
  unfold Obligations.RepeatedSymbolsAndPressesCountOnce
  intro s as bs cs r hfull hst has ha hbs hb hcs hc hr
  replace has : ∀ k ∈ as.map (classify s.cfg), k = .aOnly ∨ k = .pressed := List.forall_mem_map.2 has
  replace hbs : ∀ k ∈ bs.map (classify s.cfg), k = .both ∨ k = .pressed := List.forall_mem_map.2 hbs
  replace hcs : ∀ k ∈ cs.map (classify s.cfg), k = .bOnly ∨ k = .pressed := List.forall_mem_map.2 hcs
  rw [← List.mem_map] at ha hb hc
  constructor
  · have hwalk := fullCw.walk_repeats has ha hbs hb hcs hc
    rw [← List.map_append, ← List.map_append, ← hst] at hwalk
    obtain ⟨t, hrun, hend, hpos⟩ := fullCw.detent hfull hr hwalk
    exact ⟨t, _, hrun, fun w => quietWords_mem, hend, hpos⟩
  · have hwalk := fullCcw.walk_repeats hcs hc hbs hb has ha
    rw [← List.map_append, ← List.map_append, ← hst] at hwalk
    obtain ⟨t, hrun, hend, hpos⟩ := fullCcw.detent hfull hr hwalk
    exact ⟨t, _, hrun, fun w => quietWords_mem, hend, hpos⟩

theorem pressed_not_mem_of_released {cs : List SampleClass} {c₁ c₂ : SampleClass} (h₁ : c₁ ≠ .pressed)
    (h₂ : c₂ ≠ .pressed) (h : ∀ k ∈ cs, k = c₁ ∨ k = c₂) : .pressed ∉ cs :=
  fun hp => (h _ hp).elim (fun hk => h₁ hk.symm) fun hk => h₂ hk.symm

section
variable (K : FullChain) {s : State} {zs ws : List Sample} {b c r : Sample} (hfull : s.cfg.mode = .full)
  (hb : classify s.cfg b = .both) (hc : classify s.cfg c = K.leaving) (hr : classify s.cfg r = .opened)
include hfull hc hr

/-- Chatter in NEXT and FINAL, and the detent completes (R85 (d)). -/
theorem FullChain.detent_after_chatter_leaving (hst : s.st = K.stNext ∨ s.st = K.stFinal)
    (hzs : ∀ x ∈ zs, classify s.cfg x = .both ∨ classify s.cfg x = K.leaving) :
    ∃ t, runOps (polls (zs ++ [c, r])) s
        = some (t, List.replicate (zs.length + 1) 0x00000#17 ++ [0#15 ++ K.dir.code])
      ∧ t.st = FullState.start.index ∧ t.pos = countDir s.cfg.posOverflow K.dir s.pos := by
  replace hzs : ∀ k ∈ zs.map (classify s.cfg), k = .both ∨ k = K.leaving := List.forall_mem_map.2 hzs
  have hwalk := K.walk_chatter_leaving (List.mem_pair.2 hst) hzs
  have hmap : (zs ++ [c]).map (classify s.cfg) = zs.map (classify s.cfg) ++ [K.leaving] := by simp [hc]
  have hreleased : .pressed ∉ (zs ++ [c]).map (classify s.cfg) := by
    rw [hmap, List.mem_append, List.mem_singleton]
    exact not_or_intro (pressed_not_mem_of_released (by decide) K.leaving_released hzs) K.leaving_released.symm
  have hdetent := K.detent_released hfull hr (hmap ▸ hwalk) hreleased
  simpa using hdetent

include hb

/-- Chatter in BEGIN and NEXT, BOTH, chatter in NEXT and FINAL, and the detent completes (R85 (d)). -/
theorem FullChain.detent_after_chatter_entering (hst : s.st = K.stBegin ∨ s.st = K.stNext)
    (hzs : ∀ x ∈ zs, classify s.cfg x = K.entering ∨ classify s.cfg x = .both)
    (hws : ∀ x ∈ ws, classify s.cfg x = .both ∨ classify s.cfg x = K.leaving) :
    ∃ t, runOps (polls (zs ++ [b] ++ ws ++ [c, r])) s
        = some (t, List.replicate (zs.length + ws.length + 2) 0x00000#17 ++ [0#15 ++ K.dir.code])
      ∧ t.st = FullState.start.index ∧ t.pos = countDir s.cfg.posOverflow K.dir s.pos := by
  replace hzs : ∀ k ∈ zs.map (classify s.cfg), k = K.entering ∨ k = .both := List.forall_mem_map.2 hzs
  replace hws : ∀ k ∈ ws.map (classify s.cfg), k = .both ∨ k = K.leaving := List.forall_mem_map.2 hws
  have hwalk := (K.walk_chatter_entering (List.mem_pair.2 hst) hzs).append
    (K.walk_chatter_leaving (List.mem_pair.2 (.inl rfl)) hws)
  have hmap : (zs ++ [b] ++ ws ++ [c]).map (classify s.cfg)
      = (zs.map (classify s.cfg) ++ [.both]) ++ (ws.map (classify s.cfg) ++ [K.leaving]) := by simp [hb, hc]
  have hreleased : .pressed ∉ (zs ++ [b] ++ ws ++ [c]).map (classify s.cfg) := by
    simp only [hmap, List.mem_append, List.mem_singleton]
    have hz := pressed_not_mem_of_released K.entering_released (by decide) hzs
    have hw := pressed_not_mem_of_released (by decide) K.leaving_released hws
    simp [hz, hw, K.leaving_released.symm]
  have hlength : (zs ++ [b] ++ ws ++ [c]).length = zs.length + ws.length + 2 := by
    simp only [List.length_append, List.length_singleton]
    omega
  have hdetent := K.detent_released hfull hr (hmap ▸ hwalk) hreleased
  rwa [hlength, List.append_assoc _ [c] [r]] at hdetent

end

/-- Settles O54: the two kinds of chatter, on each chain. -/
theorem adjacentChatterKeepsTheChain : Obligations.AdjacentChatterKeepsTheChain := by
  unfold Obligations.AdjacentChatterKeepsTheChain
  intro s zs ws a b c r hfull ha hb hc hr
  exact ⟨fullCw.detent_after_chatter_leaving hfull hc hr, fullCcw.detent_after_chatter_leaving hfull ha hr,
    fullCw.detent_after_chatter_entering hfull hb hc hr, fullCcw.detent_after_chatter_entering hfull hb ha hr⟩

/-! ### Pseudo-operations (30_encoding.md R61) -/

/-- The class whose symbol `SYM y` samples (R52). -/
def classOf (y : QuadSymbol) : SampleClass :=
  if y = 0b00#2 then .opened else if y = 0b01#2 then .bOnly else if y = 0b10#2 then .aOnly else .both

theorem symbolOf_classOf (y : QuadSymbol) : symbolOf (classOf y) = some y := by
  revert y
  decide

theorem classify_nominalSample {c : Cfg} (h : NominalsClassify c) (y : QuadSymbol) :
    classify c (nominalSample c y) = classOf y := by
  obtain ⟨hAB, hA, hB, hO, -⟩ := h
  unfold nominalSample classOf
  split_ifs
  · exact hO
  · exact hB
  · exact hA
  · exact hAB

/-- The POLLs of a sequence of symbols sample its classes. -/
theorem classify_symPolls {c : Cfg} (h : NominalsClassify c) (ys : List QuadSymbol) :
    (ys.map (nominalSample c)).map (classify c) = ys.map classOf := by
  simp [classify_nominalSample h]

theorem symPolls_eq_polls (c : Cfg) (ys : List QuadSymbol) : symPolls c ys = polls (ys.map (nominalSample c)) :=
  (List.map_map ..).symm

/-- The POLLs of the symbols of a whole chain and `00`, from START, count one detent. -/
theorem FullChain.detent_of_symbols (K : FullChain) {s : State} (h : NominalsClassify s.cfg)
    (hfull : s.cfg.mode = .full) (hst : s.st = FullState.start.index) {ys : List QuadSymbol}
    (hys : ys.map classOf = [K.entering, .both, K.leaving]) :
    ∃ t rs, runOps (symPolls s.cfg (ys ++ [0b00#2])) s = some (t, rs)
      ∧ t.st = FullState.start.index ∧ t.pos = countDir s.cfg.posOverflow K.dir s.pos := by
  have hmap := classify_symPolls h ys
  have hwalk : QuietWalk .full s.st ((ys.map (nominalSample s.cfg)).map (classify s.cfg)) K.stFinal := by
    rw [hmap, hys, hst]
    exact K.walk_from_start
  obtain ⟨t, hrun, hend, hpos⟩ := K.detent hfull (classify_nominalSample h 0b00#2) hwalk
  rw [symPolls_eq_polls, List.map_append]
  exact ⟨t, _, hrun, hend, hpos⟩

/-- Settles O59: the nominal reading of a symbol has its class, and the detents poll the classes of their chain. -/
theorem pseudoOperationsMeanTheirNames : Obligations.PseudoOperationsMeanTheirNames := by
  unfold Obligations.PseudoOperationsMeanTheirNames
  intro s h
  refine ⟨fun y => ⟨rfl, ?_⟩, ⟨0#10, rfl, ?_⟩, fun hfull hst => ⟨?_, ?_⟩⟩
  · rw [classify_nominalSample h, symbolOf_classOf]
  · exact classify_of_le_var (Nat.zero_le _)
  · exact fullCw.detent_of_symbols h hfull hst (ys := [0b10#2, 0b11#2, 0b01#2]) rfl
  · exact fullCcw.detent_of_symbols h hfull hst (ys := [0b01#2, 0b11#2, 0b10#2]) rfl

/-! ### Half-step detents (R86) -/

/-- A direction of the half-step table: a departure from START that the other rest symbol completes, and one from
START_M that OPEN completes, each with a pulse; each may also return without one (R86, R87). -/
structure HalfChain where
  /-- The state after leaving START. -/
  stAway : StIndex
  /-- The state after leaving START_M. -/
  stAwayM : StIndex
  /-- The class that leaves START. -/
  entering : SampleClass
  /-- The class that leaves START_M. -/
  leaving : SampleClass
  dir : Dir
  entering_released : entering ≠ .pressed
  leaving_released : leaving ≠ .pressed
  step_start_entering : pollStep .half HalfState.start.index entering = .ok (stAway, .none)
  step_away_both : pollStep .half stAway .both = .ok (HalfState.startM.index, dir)
  step_away_opened : pollStep .half stAway .opened = .ok (HalfState.start.index, .none)
  step_startM_leaving : pollStep .half HalfState.startM.index leaving = .ok (stAwayM, .none)
  step_awayM_opened : pollStep .half stAwayM .opened = .ok (HalfState.start.index, dir)
  step_awayM_both : pollStep .half stAwayM .both = .ok (HalfState.startM.index, .none)

/-- Clockwise. -/
def halfCw : HalfChain where
  stAway := HalfState.cwBegin.index
  stAwayM := HalfState.cwBeginM.index
  entering := .aOnly
  leaving := .bOnly
  dir := .cw
  entering_released := by decide
  leaving_released := by decide
  step_start_entering := rfl
  step_away_both := rfl
  step_away_opened := rfl
  step_startM_leaving := rfl
  step_awayM_opened := rfl
  step_awayM_both := rfl

/-- Counter-clockwise. -/
def halfCcw : HalfChain where
  stAway := HalfState.ccwBegin.index
  stAwayM := HalfState.ccwBeginM.index
  entering := .bOnly
  leaving := .aOnly
  dir := .ccw
  entering_released := by decide
  leaving_released := by decide
  step_start_entering := rfl
  step_away_both := rfl
  step_away_opened := rfl
  step_startM_leaving := rfl
  step_awayM_opened := rfl
  step_awayM_both := rfl

/-- Two polls in HALF mode, of which only the second may carry a pulse. -/
theorem runOps_half {s : State} {x y : Sample} {c k : SampleClass} {u v w : StIndex} {d : Dir}
    (hhalf : s.cfg.mode = .half) (hst : s.st = u) (hx : classify s.cfg x = c) (hy : classify s.cfg y = k)
    (hc : c ≠ .pressed) (hk : k ≠ .pressed) (hleave : pollStep .half u c = .ok (v, .none))
    (harrive : pollStep .half v k = .ok (w, d)) :
    ∃ t, runOps (polls [x, y]) s = some (t, [0x00000#17, 0#15 ++ d.code])
      ∧ t.cfg = s.cfg ∧ t.st = w ∧ t.pos = countDir s.cfg.posOverflow d s.pos := by
  subst hx hy hst
  rw [← hhalf] at hleave harrive
  exact runOps_of_released_pulse (xs := [x]) (.single hleave) harrive (by simpa using hc.symm) hk

section
variable (K : HalfChain) {s : State} {x b z r : Sample} (hhalf : s.cfg.mode = .half)
include hhalf

/-- A detent: a pulse at START_M and one back at START. -/
theorem HalfChain.detent (hst : s.st = HalfState.start.index) (hx : classify s.cfg x = K.entering)
    (hb : classify s.cfg b = .both) (hz : classify s.cfg z = K.leaving) (hr : classify s.cfg r = .opened) :
    ∃ t, runOps (polls [x, b, z, r]) s
        = some (t, [0x00000#17, 0#15 ++ K.dir.code, 0x00000#17, 0#15 ++ K.dir.code])
      ∧ t.st = HalfState.start.index
      ∧ t.pos = countDir s.cfg.posOverflow K.dir (countDir s.cfg.posOverflow K.dir s.pos) := by
  obtain ⟨u, hrun, hcfg, hstM, hpos⟩ := runOps_half hhalf hst hx hb K.entering_released (by decide)
    K.step_start_entering K.step_away_both
  rw [← hcfg] at hz hr
  obtain ⟨t, hrun', -, hend, hpos'⟩ := runOps_half (hcfg ▸ hhalf) hstM hz hr K.leaving_released (by decide)
    K.step_startM_leaving K.step_awayM_opened
  refine ⟨t, ?_, hend, by rw [hpos', hcfg, hpos]⟩
  change runOps (polls [x, b] ++ polls [z, r]) s = _
  rw [runOps_append _ _ s u _ hrun, hrun']
  rfl

/-- Leaving START and coming back. -/
theorem HalfChain.return_start (hst : s.st = HalfState.start.index) (hx : classify s.cfg x = K.entering)
    (hr : classify s.cfg r = .opened) :
    ∃ t, runOps (polls [x, r]) s = some (t, [0x00000#17, 0x00000#17])
      ∧ t.st = HalfState.start.index ∧ t.pos = s.pos := by
  obtain ⟨t, hrun, -, hend, hpos⟩ := runOps_half hhalf hst hx hr K.entering_released (by decide)
    K.step_start_entering K.step_away_opened
  exact ⟨t, hrun, hend, hpos⟩

/-- Leaving START_M and coming back. -/
theorem HalfChain.return_startM (hst : s.st = HalfState.startM.index) (hz : classify s.cfg z = K.leaving)
    (hb : classify s.cfg b = .both) :
    ∃ t, runOps (polls [z, b]) s = some (t, [0x00000#17, 0x00000#17])
      ∧ t.st = HalfState.startM.index ∧ t.pos = s.pos := by
  obtain ⟨t, hrun, -, hend, hpos⟩ := runOps_half hhalf hst hz hb K.leaving_released (by decide)
    K.step_startM_leaving K.step_awayM_both
  exact ⟨t, hrun, hend, hpos⟩

end

/-- Settles O57: each direction's detent, and the return of either direction's departure from each rest state. -/
theorem halfStepDetentCountsTwo : Obligations.HalfStepDetentCountsTwo := by
  unfold Obligations.HalfStepDetentCountsTwo
  intro s a b c r hhalf ha hb hc hr
  constructor
  · intro hst
    refine ⟨halfCw.detent hhalf hst ha hb hc hr, halfCcw.detent hhalf hst hc hb ha hr, ?_⟩
    rintro z (rfl | rfl)
    · exact halfCw.return_start hhalf hst ha hr
    · exact halfCcw.return_start hhalf hst hc hr
  · rintro hst z (rfl | rfl)
    · exact halfCcw.return_startM hhalf hst ha hb
    · exact halfCw.return_startM hhalf hst hc hb

/-! ### Operations inside a chain (70_reset_and_hazards.md R153) -/

/-- The rest of a full-step chain from each of its states. -/
theorem FullChain.walk_rest (K : FullChain) :
    QuietWalk .full K.stBegin [.both, K.leaving] K.stFinal ∧ QuietWalk .full K.stNext [K.leaving] K.stFinal
      ∧ QuietWalk .full K.stFinal [] K.stFinal :=
  ⟨.cons K.step_begin_both (.single K.step_next_leaving), .single K.step_next_leaving, .nil K.stFinal⟩

/-- Inside a chain, the classes that complete it are a walk without a pulse and one class with the chain's pulse, none
of them PRESSED. -/
theorem walk_of_chainRest {m : Mode} {v : StIndex} {cs : List SampleClass} {d : Dir}
    (h : chainRest m v = some (cs, d)) :
    ∃ ks k u w, cs = ks ++ [k] ∧ QuietWalk m v ks u ∧ pollStep m u k = .ok (w, d)
      ∧ .pressed ∉ ks ∧ k ≠ .pressed ∧ (d = .cw ∨ d = .ccw) := by
  obtain ⟨hcwBegin, hcwNext, hcwFinal⟩ := fullCw.walk_rest
  obtain ⟨hccwBegin, hccwNext, hccwFinal⟩ := fullCcw.walk_rest
  cases m with
  | full =>
    simp only [chainRest] at h
    split_ifs at h with hv hv hv hv hv hv <;> cases h <;> subst hv
    · exact ⟨_, _, _, _, rfl, hcwBegin, fullCw.step_final_opened, by decide, by decide, by decide⟩
    · exact ⟨_, _, _, _, rfl, hcwNext, fullCw.step_final_opened, by decide, by decide, by decide⟩
    · exact ⟨_, _, _, _, rfl, hcwFinal, fullCw.step_final_opened, by decide, by decide, by decide⟩
    · exact ⟨_, _, _, _, rfl, hccwBegin, fullCcw.step_final_opened, by decide, by decide, by decide⟩
    · exact ⟨_, _, _, _, rfl, hccwNext, fullCcw.step_final_opened, by decide, by decide, by decide⟩
    · exact ⟨_, _, _, _, rfl, hccwFinal, fullCcw.step_final_opened, by decide, by decide, by decide⟩
  | half =>
    simp only [chainRest] at h
    split_ifs at h with hv hv hv hv <;> cases h <;> subst hv
    · exact ⟨[], _, _, _, rfl, .nil _, halfCw.step_away_both, by decide, by decide, by decide⟩
    · exact ⟨[], _, _, _, rfl, .nil _, halfCcw.step_away_both, by decide, by decide, by decide⟩
    · exact ⟨[], _, _, _, rfl, .nil _, halfCw.step_awayM_opened, by decide, by decide, by decide⟩
    · exact ⟨[], _, _, _, rfl, .nil _, halfCcw.step_awayM_opened, by decide, by decide, by decide⟩

/-- One count from zero, by either policy. -/
theorem countDir_zero_toInt (o : Overflow) {d : Dir} (hd : d = .cw ∨ d = .ccw) :
    (countDir o d 0#16).toInt = if d = .cw then 1 else -1 := by
  rcases hd with rfl | rfl
  · rw [countDir_cw, posInc_toInt]
    rfl
  · rw [countDir_ccw, posDec_toInt]
    rfl

/-- With no press pending, HANDLE_EVENT takes the counter one step toward zero. -/
theorem deliverEvent_pos {s : State} (hb : s.btnPending = false) : (deliverEvent s).pos = towardZero s.pos := by
  by_cases hz : s.pos.toInt = 0
  · rw [deliverEvent_of_zero hb hz]
    simp [towardZero, hz]
  · exact (deliverEvent_of_nonzero hb hz).1

/-- Settles O58: neither operation writes `ST`, so the polls complete the chain from the state it leaves; the counter it
leaves is its own. -/
theorem resetInsideChainCountsFromZero : Obligations.ResetInsideChainCountsFromZero := by
  unfold Obligations.ResetInsideChainCountsFromZero
  intro s q xs cs d hchain hmap hq
  obtain ⟨ks, k, u, w, rfl, hwalk, hpulse, hks, hk, hd⟩ := walk_of_chainRest hchain
  obtain ⟨ys, zs, rfl, rfl, hzs⟩ := List.map_eq_append_iff.1 hmap
  obtain ⟨r, rfl, rfl⟩ := List.map_eq_singleton_iff.1 hzs
  obtain ⟨v, hv, -, hcfg⟩ := exists_exec_legal (s := s) (chainRest_legal _ _ _ hchain) q
  obtain ⟨-, -, hst, -⟩ := registerWriters q s v hv
  have hvst : v.st = s.st := (hst (by rcases hq with rfl | rfl <;> rfl)).1
  rw [← hcfg, ← hvst] at hwalk
  rw [← hcfg] at hpulse hks hk
  obtain ⟨t, hrun, -, -, hpos⟩ := runOps_of_released_pulse hwalk hpulse hks hk
  refine ⟨v, t, hv, hvst, ?_, hcfg ▸ hpos, ?_, ?_, ?_⟩
  · rw [List.length_append, List.length_singleton, Nat.add_sub_cancel]
    exact runOps_cons_of_run hv hrun
  · rintro rfl
    have hzero : v.pos = 0#16 := by rw [exec_resetPosition_eq hv]; rfl
    exact ⟨hzero, by rw [hpos, hzero, countDir_zero_toInt _ hd]⟩
  · rintro rfl hdrain hb
    cases hv.symm.trans (exec_handleEvent_of_drain hdrain)
    rw [deliverEvent_pos hb, towardZero_natAbs]
  · rintro rfl hraw
    rcases exec_handleEvent_cases hv with ⟨hdrain, rfl⟩ | ⟨-, rfl⟩
    · rw [deliverEvent_of_pending (hraw.resolve_left (by simp [hdrain]))]
      rfl
    · rfl

end Sys2Proof.Machine
end

section
/-! PROOFS. Full-step pulses and the classes before them (41_quadrature.md R83 (d), R85 (c)): what the index holds of the
classes sampled since START, and runs that complete no chain. -/

namespace Sys2Proof.Machine

/-- The classes of a whole full-step chain, by the direction it counts (R83 (a), (b)). -/
def wholeChain : Dir → List SampleClass
  | .none => []
  | .cw => [.aOnly, .both, .bOnly, .opened]
  | .ccw => [.bOnly, .both, .aOnly, .opened]

/-- The classes of its chain that lead from START to a state: those that `chainRest` does not still ask for. -/
def classesTo (v : StIndex) : List SampleClass :=
  match chainRest .full v with
  | some (rest, d) => (wholeChain d).take (4 - rest.length)
  | none => []

/-- One poll adds at most its own class to what the index holds; a pulse has its whole chain, ended by OPEN in FINAL. -/
theorem pollStep_full_classes (v : StIndex) (c : SampleClass) :
    ∀ r ∈ (pollStep .full v c).toOption, (classesTo r.1).Sublist (classesTo v ++ [c])
      ∧ (r.2 ≠ .none → wholeChain r.2 = classesTo v ++ [c]
        ∧ c = .opened ∧ (v = FullState.cwFinal.index ∨ v = FullState.ccwFinal.index)) := by
  revert v
  cases c <;> decide

/-- OPEN in a FINAL state completes what the index holds. -/
theorem classesTo_final :
    classesTo FullState.cwFinal.index ++ [.opened] = wholeChain .cw
      ∧ classesTo FullState.ccwFinal.index ++ [.opened] = wholeChain .ccw := by
  decide

/-! ### From START to a pulse (R85 (c)) -/

theorem classesTo_of_poll {s t : State} {x : Sample} {hs : List SampleClass} (hfull : s.cfg.mode = .full)
    (hsub : (classesTo s.st).Sublist hs) (h : exec (.poll x) s = .next t) :
    (classesTo t.st).Sublist (hs ++ [classify s.cfg x]) := by
  obtain ⟨d, hstep, -⟩ := pollStep_of_poll h
  rw [hfull] at hstep
  obtain ⟨hadd, -⟩ := pollStep_full_classes _ _ _ (mem_toOption_of_ok hstep)
  exact hadd.trans (hsub.append_right _)

/-- The classes polled hold those the last index stands for, by induction on the polls. -/
theorem classesTo_of_polls {xs : List Sample} {s u : State} {rs : List Rsp} {hs : List SampleClass}
    (hfull : s.cfg.mode = .full) (hsub : (classesTo s.st).Sublist hs) (h : runOps (polls xs) s = some (u, rs)) :
    u.cfg = s.cfg ∧ (classesTo u.st).Sublist (hs ++ xs.map (classify s.cfg)) := by
  induction xs generalizing s hs rs with
  | nil =>
    cases h
    simpa using hsub
  | cons x xs ih =>
    obtain ⟨t, qs, ht, hrest, rfl⟩ := runOps_cons_some _ _ s u rs h
    have hcfg := exec_cfg ht
    obtain ⟨hucfg, husub⟩ := ih (hcfg ▸ hfull) (classesTo_of_poll hfull hsub ht) hrest
    rw [hcfg, List.append_assoc] at husub
    exact ⟨hucfg.trans hcfg, husub⟩

/-- From START a pulse comes with the whole chain of its direction among the classes polled. -/
theorem wholeChain_of_pulse {s u t : State} {xs : List Sample} {x : Sample} {rs : List Rsp} {d : Dir}
    (hfull : s.cfg.mode = .full) (hst : s.st = FullState.start.index) (hrun : runOps (polls xs) s = some (u, rs))
    (hstep : pollStep u.cfg.mode u.st (classify u.cfg x) = .ok (t.st, d)) (hd : d ≠ .none) :
    (wholeChain d).Sublist ((xs ++ [x]).map (classify s.cfg)) := by
  have hstart : (classesTo s.st).Sublist [] := by rw [hst]; decide
  obtain ⟨hcfg, hsub⟩ := classesTo_of_polls hfull hstart hrun
  rw [hcfg, hfull] at hstep
  obtain ⟨-, hpulse⟩ := pollStep_full_classes _ _ _ (mem_toOption_of_ok hstep)
  obtain ⟨hchain, -⟩ := hpulse hd
  rw [hchain, List.map_append]
  exact hsub.append_right _

/-- Settles O55: the word of the last response names the pulse, and the pulse has its chain before it. -/
theorem pulseNeedsItsWholeChain : Obligations.PulseNeedsItsWholeChain := by
  unfold Obligations.PulseNeedsItsWholeChain
  intro s u t xs x rs hfull hst hrun h
  obtain ⟨d, hstep, hrsp⟩ := pollStep_of_poll h
  have hchain := wholeChain_of_pulse hfull hst hrun hstep
  constructor
  · intro hw
    obtain rfl := pollWord_eq_pulse.1 (hrsp ▸ hw)
    exact hchain (by decide)
  · intro hw
    obtain rfl := pollWord_eq_pulse.2 (hrsp ▸ hw)
    exact hchain (by decide)

/-! ### Bounce rejection (R83 (d)) -/

/-- Polls none of which is OPEN in a FINAL state walk without a pulse, by induction on them. -/
theorem quietWalk_of_completesNoChain {xs : List Sample} {s : State} (hfull : s.cfg.mode = .full) (hs : s.Legal)
    (h : completesNoChain xs s = true) : ∃ v, QuietWalk .full s.st (xs.map (classify s.cfg)) v := by
  induction xs generalizing s with
  | nil => exact ⟨s.st, .nil s.st⟩
  | cons x xs ih =>
    obtain ⟨t, ht, hlegal, hcfg⟩ := exists_exec_legal hs (.poll x)
    obtain ⟨hopen, hrest⟩ := (completesNoChain_cons_of_next x xs s t ht).1 h
    obtain ⟨d, hstep, -⟩ := pollStep_of_poll ht
    rw [hfull] at hstep
    obtain ⟨-, hpulse⟩ := pollStep_full_classes _ _ _ (mem_toOption_of_ok hstep)
    obtain rfl : d = .none := by
      by_contra hd
      exact hopen (hpulse hd).2
    obtain ⟨v, hwalk⟩ := ih (hcfg ▸ hfull) hlegal hrest
    rw [hcfg] at hwalk
    exact ⟨v, .cons hstep hwalk⟩

/-- Polls whose classes, after those that the index stands for, hold no whole chain never poll OPEN in a FINAL state,
by induction on them. -/
theorem completesNoChain_of_no_wholeChain {xs : List Sample} {s : State} {hs : List SampleClass}
    (hfull : s.cfg.mode = .full) (hlegal : s.Legal) (hsub : (classesTo s.st).Sublist hs)
    (hcw : ¬ (wholeChain .cw).Sublist (hs ++ xs.map (classify s.cfg)))
    (hccw : ¬ (wholeChain .ccw).Sublist (hs ++ xs.map (classify s.cfg))) : completesNoChain xs s = true := by
  induction xs generalizing s hs with
  | nil => rfl
  | cons x xs ih =>
    obtain ⟨t, ht, htlegal, hcfg⟩ := exists_exec_legal hlegal (.poll x)
    rw [List.map_cons, List.append_cons] at hcw hccw
    rw [completesNoChain_cons_of_next x xs s t ht]
    constructor
    · rintro ⟨hopen, hfinal⟩
      have hheld : (classesTo s.st ++ [SampleClass.opened]).Sublist
          (hs ++ [classify s.cfg x] ++ xs.map (classify s.cfg)) := by
        rw [hopen]
        exact (hsub.append_right _).trans (List.sublist_append_left _ _)
      obtain ⟨hwholeCw, hwholeCcw⟩ := classesTo_final
      rcases hfinal with hst | hst
      · exact hcw (by rwa [hst, hwholeCw] at hheld)
      · exact hccw (by rwa [hst, hwholeCcw] at hheld)
    · rw [← hcfg] at hcw hccw
      exact ih (hcfg ▸ hfull) htlegal (hcfg ▸ classesTo_of_poll hfull hsub ht) hcw hccw

/-- Settles O56: a run that completes no chain walks without a pulse; from START a run without a whole chain among its
classes is one. -/
theorem incompleteChainKeepsPosition : Obligations.IncompleteChainKeepsPosition := by
  unfold Obligations.IncompleteChainKeepsPosition
  intro s xs hfull
  have hquiet : s.Legal → completesNoChain xs s = true →
      ∃ t, runOps (polls xs) s = some (t, quietWords s.cfg xs) ∧ t.pos = s.pos := by
    intro hs h
    obtain ⟨v, hwalk⟩ := quietWalk_of_completesNoChain hfull hs h
    obtain ⟨t, hrun, -, -, hpos⟩ := runOps_of_quietWalk (hfull ▸ hwalk)
    exact ⟨t, hrun, hpos⟩
  constructor
  · intro hs h
    obtain ⟨t, hrun, hpos⟩ := hquiet hs h
    exact ⟨t, _, hrun, hpos, fun w => quietWords_mem⟩
  · intro hst hcw hccw
    have hlegal : s.Legal := by
      rw [State.Legal, hst, hfull]
      decide
    have hstart : (classesTo s.st).Sublist [] := by rw [hst]; decide
    have hno := completesNoChain_of_no_wholeChain hfull hlegal hstart hcw hccw
    obtain ⟨t, hrun, hpos⟩ := hquiet hlegal hno
    exact ⟨hno, t, _, hrun, hpos⟩

end Sys2Proof.Machine
end
